-- ==== Sys2Proof/Word.lean ====
section
/-! DEFINITION. The word types of SWQD (spec/00_scope.md R16: `uN` is an N-bit unsigned value, bit 0 the least
significant). Everything the spec treats as bits is a `BitVec` of the width it gives. -/

namespace Sys2Proof

/-- A 24-bit stimulus word (30_encoding.md R70). -/
abbrev StimulusWord := BitVec 24

/-- A 16-bit host register, as the bus moves it (20_memory.md R50). -/
abbrev RegWord := BitVec 16

/-- A register word address, 0x0 to 0xF (20_memory.md R50). -/
abbrev RegAddr := BitVec 4

/-- One byte of a frame (40_tpd.md R116). -/
abbrev Byte := BitVec 8

/-- A PinSnapshot: bit 0 phaseA, bit 1 phaseB, bit 2 button, bit 3 switch (41_quadrature.md R140). -/
abbrev Snapshot := BitVec 4

/-- The level of a line: `true` is high, `false` is low (00_scope.md R17). -/
abbrev Level := Bool

end Sys2Proof
end

