-- ==== Sys2Proof/Config.lean ====
section
/-! DEFINITION. The implementation parameters of SWQD (spec/00_scope.md section 3) and the environment's free inputs.
A parameter the spec marks OPEN is an opaque constant here: it has no value a proof could use. -/

namespace Sys2Proof

/-- The build-time parameters that a rule of the model reads (00_scope.md R6 to R10 and R13). "A model takes each
parameter below as an argument": the state carries them, and no step changes them (log 3). Each fits in 16 bits (R12),
MAX in 8 (R13). -/
structure Params where
  /-- T_START_LOW, the ticks the line is driven low (R6). -/
  tStartLow : BitVec 16
  /-- T_RELEASE, the ticks the line is released before the acknowledgment waits (R7). -/
  tRelease : BitVec 16
  /-- ACK_BUDGET, the iteration budget of each acknowledgment wait (R8). -/
  ackBudget : BitVec 16
  /-- BIT_BUDGET, the iteration budget of each bit's rise wait and fall wait (R9). -/
  bitBudget : BitVec 16
  /-- SAMPLE_OFFSET, the ticks from the rise to the sample (R10). -/
  sampleOffset : BitVec 16
  /-- MAX, the largest menu index (R13). -/
  max : BitVec 8
deriving DecidableEq, Repr

/-- The legal ranges of R6 to R10 and R13; the upper bounds are the fields' widths, and ACK_BUDGET, BIT_BUDGET and MAX
are legal at every value. -/
abbrev Params.legal (p : Params) : Prop :=
  1000 ≤ p.tStartLow.toNat ∧ 1 ≤ p.tRelease.toNat ∧ 1 ≤ p.sampleOffset.toNat

/-- ACK_BUDGET. OPEN, any value from 0 to 65535 (R8, D8). -/
opaque Config.ackBudget : BitVec 16

/-- BIT_BUDGET. OPEN, any value from 0 to 65535 (R9, D9). -/
opaque Config.bitBudget : BitVec 16

/-- SAMPLE_OFFSET less one. OPEN, any value from 0 to 65534 (R10, D10). -/
opaque Config.sampleOffsetLessOne : Fin 65535

/-- SAMPLE_OFFSET. OPEN, any value from 1 to 65535 (R10, D10). -/
def Config.sampleOffset : BitVec 16 := BitVec.ofNat 16 (Config.sampleOffsetLessOne.val + 1)

/-- The parameters after reset: the spec's values where it gives them (R6: 3000, R7: 30, R13: 2), else the OPEN
constants above. -/
def Config.params : Params where
  tStartLow := 3000
  tRelease := 30
  ackBudget := Config.ackBudget
  bitBudget := Config.bitBudget
  sampleOffset := Config.sampleOffset
  max := 2

/-- US_TICK_PERIOD in microseconds (R11). No rule of the model reads it. -/
def Config.usTickPeriodMicroseconds : Nat := 1

/-- CNT_WIDTH, the width of `tpd_cnt` (R12). -/
def Config.cntWidth : Nat := 16

/-- SYNC_STAGES (R14). No rule of the model depends on it. -/
def Config.syncStages : Nat := 2

/-- CLK_HZ less 1 MHz. OPEN (R15, D40). -/
opaque Config.clkHzAboveMinimum : Nat

/-- CLK_HZ, at least 1 MHz (R15). No rule of the model reads it (log 11). -/
def Config.clkHz : Nat := 1000000 + Config.clkHzAboveMinimum

/-- QD_TICK_PERIOD in cycles of `clk`. OPEN (R15, D4). No rule of the model reads it (log 11). -/
opaque Config.qdTickPeriod : Nat

/-- BASE, the address at which the host sees register 0. OPEN (R15, D39). No rule of the model reads it (log 11). -/
opaque Config.base : Nat

/-- The input ports of one cycle as the environment drives them (10_state.md R20), with `line` and `pins` the levels at
the ends of the synchroniser chains (R22). -/
structure CycleInputs where
  rst : Bool
  usTick : Bool
  qdTick : Bool
  busSel : Bool
  busWe : Bool
  busAddr : RegAddr
  busWdata : RegWord
  line : Level
  pins : Snapshot
deriving DecidableEq, Repr, Inhabited

/-- What the environment drives in the cycle with this number, where the state queues no record for it. A free draw:
"The model draws it freely" (R19, 60_exceptions.md R225, I14) (log 1). -/
opaque Config.environment : Nat → CycleInputs

end Sys2Proof
end

