-- ==== Sys2Proof/Syntax.lean ====
section
/-! DEFINITION. The operations of SWQD (spec/30_encoding.md R70 to R78): one constructor for each row of
spec/opcode_table.json, and the cycle record a step runs (R74). -/

namespace Sys2Proof

/-- One stimulus word, decoded: one constructor for each of the 22 rows of the opcode map (R78), with the operands of
R75 that the row leaves open. `addr` is ADDR = `w[19:16]`, `wdata` is WDATA = `w[15:0]`. -/
inductive Instr where
  /-- RD.CTRL, 0x000000 (43_host_bus.md R182). -/
  | rdCtrl
  /-- RD.TPD_STATUS, 0x010000 (R183). -/
  | rdTpdStatus
  /-- RD.FRAME_HUM, 0x020000 (R184). -/
  | rdFrameHum
  /-- RD.FRAME_TEMP, 0x030000 (R185). -/
  | rdFrameTemp
  /-- RD.FRAME_CSUM, 0x040000 (R186). -/
  | rdFrameCsum
  /-- RD.TEMP_SIGNED, 0x050000 (R187). -/
  | rdTempSigned
  /-- RD.QD_STATUS, 0x060000 (R188). -/
  | rdQdStatus
  /-- RD.MENU_STATE, 0x070000 (R189). -/
  | rdMenuState
  /-- RD.MENU_CONSUME, 0x080000 (R190). -/
  | rdMenuConsume
  /-- RD.RSVD, the row of address 0x9 (R191). -/
  | rdRsvd9
  /-- RD.RSVD, the row of addresses 0xA and 0xB (R191). -/
  | rdRsvdAB (addr : RegAddr)
  /-- RD.RSVD, the row of addresses 0xC to 0xF (R191). -/
  | rdRsvdCF (addr : RegAddr)
  /-- WR.CTRL, address 0x0 (R181). -/
  | wrCtrl (wdata : RegWord)
  /-- WR.IGNORED, the row of address 0x1 (R192). -/
  | wrIgnored1 (wdata : RegWord)
  /-- WR.IGNORED, the row of addresses 0x2 and 0x3 (R192). -/
  | wrIgnored23 (addr : RegAddr) (wdata : RegWord)
  /-- WR.IGNORED, the row of addresses 0x4 to 0x7 (R192). -/
  | wrIgnored47 (addr : RegAddr) (wdata : RegWord)
  /-- WR.IGNORED, the row of addresses 0x8 to 0xF (R192). -/
  | wrIgnored8F (addr : RegAddr) (wdata : RegWord)
  /-- EV.NOP, 0x800000 (R193). -/
  | evNop
  /-- EV.US, 0x800001 (40_tpd.md R102). -/
  | evUs
  /-- EV.QD, 0x800002 (41_quadrature.md R146). -/
  | evQd
  /-- EV.US_QD, 0x800003 (43_host_bus.md R194). -/
  | evUsQd
  /-- EV.RST, 0x800004 with the don't-care bits QD and US of R73 (70_reset_and_hazards.md R230). -/
  | evRst (dontCare : BitVec 2)
deriving DecidableEq, Repr

/-- A cycle record: what one step runs (R74). The words are undecoded. -/
structure CycleRecord where
  /-- No host transaction, or one HR or HW word. -/
  host : Option StimulusWord
  /-- One EV word; 0x800000 when no event is given. -/
  ev : StimulusWord
  /-- The synchronised level of the data line. -/
  line : Level
  /-- The synchronised encoder vector. -/
  pins : Snapshot
deriving DecidableEq, Repr

end Sys2Proof
end

