-- ==== Sys2Proof/WellFormed.lean ====
section
/-! DEFINITION. Which terms of `Instr` stand for a word of the opcode map: an operand ADDR lies in its row's range
(spec/30_encoding.md R78). Every other operand is legal at every value of its width (R75). -/

namespace Sys2Proof

/-- ADDR lies in the range of the instruction's row (R78). -/
def Instr.wellFormed : Instr → Bool
  | .rdCtrl => true
  | .rdTpdStatus => true
  | .rdFrameHum => true
  | .rdFrameTemp => true
  | .rdFrameCsum => true
  | .rdTempSigned => true
  | .rdQdStatus => true
  | .rdMenuState => true
  | .rdMenuConsume => true
  | .rdRsvd9 => true
  | .rdRsvdAB addr => decide (0xA ≤ addr.toNat ∧ addr.toNat ≤ 0xB)
  | .rdRsvdCF addr => decide (0xC ≤ addr.toNat ∧ addr.toNat ≤ 0xF)
  | .wrCtrl _ => true
  | .wrIgnored1 _ => true
  | .wrIgnored23 addr _ => decide (0x2 ≤ addr.toNat ∧ addr.toNat ≤ 0x3)
  | .wrIgnored47 addr _ => decide (0x4 ≤ addr.toNat ∧ addr.toNat ≤ 0x7)
  | .wrIgnored8F addr _ => decide (0x8 ≤ addr.toNat ∧ addr.toNat ≤ 0xF)
  | .evNop => true
  | .evUs => true
  | .evQd => true
  | .evUsQd => true
  | .evRst _ => true

end Sys2Proof
end

