-- ==== Sys2Proof/Decode.lean ====
section
/-! DEFINITION. Decoding and encoding of stimulus words (spec/30_encoding.md R70 to R79), and the opcode map of R78 as
a table. Decoding is total: every 24-bit value is an instruction or is RESERVED, by name (R76). -/

namespace Sys2Proof

/-- Why a word is RESERVED: the four cases of R79. -/
inductive ReservedCase where
  /-- R79(a): KIND = 0b11. -/
  | kind
  /-- R79(b): KIND is HR or HW and `w[21:20]` ≠ 0. -/
  | hostZeroField
  /-- R79(c): KIND is HR and `w[15:0]` ≠ 0. -/
  | readDataField
  /-- R79(d): KIND is EV and `w[21:3]` ≠ 0. -/
  | eventZeroField
deriving DecidableEq, Repr

/-- The verdict on a word (R76): one instruction of the table, or RESERVED. -/
inductive Decoded where
  | instr (i : Instr)
  | reserved (why : ReservedCase)
deriving DecidableEq, Repr

/-- KIND = `w[23:22]` (R70). -/
def kindOf (w : StimulusWord) : BitVec 2 := w.extractLsb' 22 2

/-- `w[21:20]`, which must be zero in HR and HW (R71, R72). -/
def hostZeroOf (w : StimulusWord) : BitVec 2 := w.extractLsb' 20 2

/-- ADDR = `w[19:16]` (R75). -/
def addrOf (w : StimulusWord) : RegAddr := w.extractLsb' 16 4

/-- WDATA = `w[15:0]` (R75); must be zero in HR (R71). -/
def wdataOf (w : StimulusWord) : RegWord := w.extractLsb' 0 16

/-- `w[21:3]`, which must be zero in EV (R73). -/
def eventZeroOf (w : StimulusWord) : BitVec 19 := w.extractLsb' 3 19

/-- {RST, QD, US} = `w[2:0]` (R73, R75). -/
def eventBitsOf (w : StimulusWord) : BitVec 3 := w.extractLsb' 0 3

/-- The HR rows of R78, by ADDR. -/
def decodeRead (addr : RegAddr) : Instr :=
  match addr.toNat with
  | 0x0 => .rdCtrl
  | 0x1 => .rdTpdStatus
  | 0x2 => .rdFrameHum
  | 0x3 => .rdFrameTemp
  | 0x4 => .rdFrameCsum
  | 0x5 => .rdTempSigned
  | 0x6 => .rdQdStatus
  | 0x7 => .rdMenuState
  | 0x8 => .rdMenuConsume
  | 0x9 => .rdRsvd9
  | 0xA => .rdRsvdAB addr
  | 0xB => .rdRsvdAB addr
  | _ => .rdRsvdCF addr

/-- The HW rows of R78, by ADDR. -/
def decodeWrite (addr : RegAddr) (wdata : RegWord) : Instr :=
  match addr.toNat with
  | 0x0 => .wrCtrl wdata
  | 0x1 => .wrIgnored1 wdata
  | 0x2 => .wrIgnored23 addr wdata
  | 0x3 => .wrIgnored23 addr wdata
  | 0x4 => .wrIgnored47 addr wdata
  | 0x5 => .wrIgnored47 addr wdata
  | 0x6 => .wrIgnored47 addr wdata
  | 0x7 => .wrIgnored47 addr wdata
  | _ => .wrIgnored8F addr wdata

/-- The EV rows of R78, by {RST, QD, US}; with RST = 1, QD and US are don't-care (R73). -/
def decodeEvent (bits : BitVec 3) : Instr :=
  match bits.toNat with
  | 0 => .evNop
  | 1 => .evUs
  | 2 => .evQd
  | 3 => .evUsQd
  | _ => .evRst (bits.extractLsb' 0 2)

/-- Decoding (R76): first KIND, then the fields that must be zero for that KIND (R79), last ADDR or bits 2:0. -/
def decode (w : StimulusWord) : Decoded :=
  match (kindOf w).toNat with
  | 0 =>
    if hostZeroOf w ≠ 0 then .reserved .hostZeroField
    else if wdataOf w ≠ 0 then .reserved .readDataField
    else .instr (decodeRead (addrOf w))
  | 1 =>
    if hostZeroOf w ≠ 0 then .reserved .hostZeroField
    else .instr (decodeWrite (addrOf w) (wdataOf w))
  | 2 =>
    if eventZeroOf w ≠ 0 then .reserved .eventZeroField
    else .instr (decodeEvent (eventBitsOf w))
  | _ => .reserved .kind

/-- Format HR (R71): KIND 0b00, ADDR, all else 0. -/
def hrWord (addr : RegAddr) : StimulusWord := 0#2 ++ 0#2 ++ addr ++ 0#16

/-- Format HW (R72): KIND 0b01, ADDR, WDATA. -/
def hwWord (addr : RegAddr) (wdata : RegWord) : StimulusWord := 1#2 ++ 0#2 ++ addr ++ wdata

/-- Format EV (R73): KIND 0b10, then {RST, QD, US} in bits 2:0. -/
def evWord (bits : BitVec 3) : StimulusWord := 2#2 ++ 0#19 ++ bits

/-- The encoder, from the formats of R71 to R73 and the rows of R78. -/
def encode : Instr → StimulusWord
  | .rdCtrl => hrWord 0x0
  | .rdTpdStatus => hrWord 0x1
  | .rdFrameHum => hrWord 0x2
  | .rdFrameTemp => hrWord 0x3
  | .rdFrameCsum => hrWord 0x4
  | .rdTempSigned => hrWord 0x5
  | .rdQdStatus => hrWord 0x6
  | .rdMenuState => hrWord 0x7
  | .rdMenuConsume => hrWord 0x8
  | .rdRsvd9 => hrWord 0x9
  | .rdRsvdAB addr => hrWord addr
  | .rdRsvdCF addr => hrWord addr
  | .wrCtrl wdata => hwWord 0x0 wdata
  | .wrIgnored1 wdata => hwWord 0x1 wdata
  | .wrIgnored23 addr wdata => hwWord addr wdata
  | .wrIgnored47 addr wdata => hwWord addr wdata
  | .wrIgnored8F addr wdata => hwWord addr wdata
  | .evNop => evWord 0
  | .evUs => evWord 1
  | .evQd => evWord 2
  | .evUsQd => evWord 3
  | .evRst dontCare => evWord (1#1 ++ dontCare)

/-- One row of the opcode map (R78): a word `w` selects the row when `w &&& mask = pattern`. -/
structure OpcodeRow where
  mnemonic : String
  pattern : StimulusWord
  mask : StimulusWord
deriving DecidableEq, Repr

/-- The opcode map of R78, row by row (spec/opcode_table.json). -/
def opcodeRows : List OpcodeRow :=
  [ ⟨"RD.CTRL", 0x000000, 0xFFFFFF⟩,
    ⟨"RD.TPD_STATUS", 0x010000, 0xFFFFFF⟩,
    ⟨"RD.FRAME_HUM", 0x020000, 0xFFFFFF⟩,
    ⟨"RD.FRAME_TEMP", 0x030000, 0xFFFFFF⟩,
    ⟨"RD.FRAME_CSUM", 0x040000, 0xFFFFFF⟩,
    ⟨"RD.TEMP_SIGNED", 0x050000, 0xFFFFFF⟩,
    ⟨"RD.QD_STATUS", 0x060000, 0xFFFFFF⟩,
    ⟨"RD.MENU_STATE", 0x070000, 0xFFFFFF⟩,
    ⟨"RD.MENU_CONSUME", 0x080000, 0xFFFFFF⟩,
    ⟨"RD.RSVD", 0x090000, 0xFFFFFF⟩,
    ⟨"RD.RSVD", 0x0A0000, 0xFEFFFF⟩,
    ⟨"RD.RSVD", 0x0C0000, 0xFCFFFF⟩,
    ⟨"WR.CTRL", 0x400000, 0xFF0000⟩,
    ⟨"WR.IGNORED", 0x410000, 0xFF0000⟩,
    ⟨"WR.IGNORED", 0x420000, 0xFE0000⟩,
    ⟨"WR.IGNORED", 0x440000, 0xFC0000⟩,
    ⟨"WR.IGNORED", 0x480000, 0xF80000⟩,
    ⟨"EV.NOP", 0x800000, 0xFFFFFF⟩,
    ⟨"EV.US", 0x800001, 0xFFFFFF⟩,
    ⟨"EV.QD", 0x800002, 0xFFFFFF⟩,
    ⟨"EV.US_QD", 0x800003, 0xFFFFFF⟩,
    ⟨"EV.RST", 0x800004, 0xFFFFFC⟩ ]

/-- The position in `opcodeRows` of an instruction's row. -/
def Instr.row : Instr → Nat
  | .rdCtrl => 0
  | .rdTpdStatus => 1
  | .rdFrameHum => 2
  | .rdFrameTemp => 3
  | .rdFrameCsum => 4
  | .rdTempSigned => 5
  | .rdQdStatus => 6
  | .rdMenuState => 7
  | .rdMenuConsume => 8
  | .rdRsvd9 => 9
  | .rdRsvdAB _ => 10
  | .rdRsvdCF _ => 11
  | .wrCtrl _ => 12
  | .wrIgnored1 _ => 13
  | .wrIgnored23 _ _ => 14
  | .wrIgnored47 _ _ => 15
  | .wrIgnored8F _ _ => 16
  | .evNop => 17
  | .evUs => 18
  | .evQd => 19
  | .evUsQd => 20
  | .evRst _ => 21

/-- The word selects the row (R76). -/
def OpcodeRow.selects (row : OpcodeRow) (w : StimulusWord) : Bool := w &&& row.mask == row.pattern

/-- The instruction the decoder reads from an instruction whose bits are `w`, bit 0 the least significant. A stimulus
word is one 24-bit word (R81), so there is no second word and no byte order; a number of more than 24 bits is no
stimulus word. `nbits` is not needed: every bit above it is 0 in `w` itself. -/
def decodeTableWord (_nbits w : Nat) : Option Instr :=
  if w < 2 ^ 24 then
    match decode (BitVec.ofNat 24 w) with
    | .instr i => some i
    | .reserved _ => none
  else none

end Sys2Proof
end

