-- ==== Sys2Proof/Machine/State.lean ====
section
/-! DEFINITION. The state of SWQD as plain data (spec/10_state.md R26 to R40), its reset value (R49), and the reasons a
step can stop. -/

namespace Sys2Proof.Machine

/-- `tpd_state`, the TPD's sequencing state: nine codes, 0 to 8 (R30). Codes 9 to 15 are not representable (I20) (log 9). -/
inductive TpdState where
  | idle
  | startLow
  | release
  | ack1
  | ack2
  | ack3
  | bitRise
  | bitDelay
  | bitFall
deriving DecidableEq, Repr

/-- `tpd_result`, the outcome of the last attempt (R35, 60_exceptions.md R210). Codes 5 to 7 are not representable
(I21). -/
inductive TpdResult where
  | none
  | ok
  | ackTimeout
  | bitTimeout
  | checksumMismatch
deriving DecidableEq, Repr

/-- `tpd_stage`, what the TPD was waiting for when an attempt timed out (R36, 60_exceptions.md R211). Codes 6 and 7 are
not representable (I21). -/
inductive TpdStage where
  | none
  | ack1
  | ack2
  | ack3
  | bitRise
  | bitFall
deriving DecidableEq, Repr

/-- An EncoderEvent rotation, in {-1, 0, +1} (41_quadrature.md R142), as `qd_last_rot` holds it (R39); the code 0b10 is
not representable (I22). -/
inductive Rotation where
  | zero
  | plus
  | minus
deriving DecidableEq, Repr

/-- Where a bounded wait goes when the line reaches its target (40_tpd.md R110): another TPD state, or FINISH. -/
inductive WaitNext where
  | goto (st : TpdState)
  | finish
deriving DecidableEq, Repr

/-- The complete state of SWQD (R26), the ends of its synchroniser chains (R22), its read-data port (R20), and the
model's own three fields. -/
structure State where
  /-- TPD sequencing state (R30). -/
  tpdState : TpdState
  /-- Ticks counted in the current TPD state (R31). -/
  tpdCnt : BitVec 16
  /-- Bits received so far in the current attempt, the most recent in bit 0 (R32). -/
  tpdShreg : BitVec 40
  /-- Number of bits sampled in the current or last attempt (R33). -/
  tpdBitcnt : BitVec 6
  /-- The last attempt finished (R34). -/
  tpdDone : Bool
  /-- Outcome of the last attempt (R35). -/
  tpdResult : TpdResult
  /-- Where the last attempt timed out (R36). -/
  tpdStage : TpdStage
  /-- {humidityHi, humidityLo} (R37, R43). -/
  frameHum : BitVec 16
  /-- {tempHi, tempLo} (R37, R44). -/
  frameTemp : BitVec 16
  /-- The checksum byte received (R37, R45). -/
  frameRxCsum : BitVec 8
  /-- The checksum computed (R37, R45). -/
  frameCalcCsum : BitVec 8
  /-- Temperature in signed tenths, s16 (R37, R46). -/
  tempSigned : BitVec 16
  /-- The snapshot of the most recent sample (R38). -/
  qdSnap : Snapshot
  /-- A snapshot has been captured since reset (R38). -/
  qdPrimed : Bool
  /-- The rotation found at the last sample (R39). -/
  qdLastRot : Rotation
  /-- The button edge found at the last sample (R39). -/
  qdLastEdge : Bool
  /-- MenuState.index (R40). -/
  menuIndex : BitVec 8
  /-- MenuState.pendingAction (R40). -/
  menuPending : Bool
  /-- `line`: the end of the `dq_in` synchroniser chain in the current cycle (R22). -/
  line : Level
  /-- `pins`: the ends of the encoder synchroniser chains in the current cycle (R22, 41_quadrature.md R140). -/
  pins : Snapshot
  /-- `bus_rdata` of the current cycle; `none` where the spec gives it no valid value (R20) (log 6). -/
  busRdata : Option RegWord
  /-- The model's own: the build-time parameters, which no step changes (00_scope.md section 3) (log 3). -/
  params : Params
  /-- The model's own: the cycle records the environment has queued, the next one first (30_encoding.md R74) (log 1). -/
  stimulus : List CycleRecord
  /-- The model's own: the number of cycles run, which indexes the free draw of a cycle's inputs (R19) (log 1). -/
  cycle : Nat
deriving DecidableEq, Repr

/-- SWQD has no fault: "No behaviour of SWQD is a fault" (93_implementation_defined.md section 3, 60_exceptions.md
R216, R219). So there is no constructor: nothing raises one, which is safe (log 7). -/
inductive Fault where
deriving DecidableEq, Repr

/-- Why a step has no meaning. Each is safe: the model stops, and says nothing of the hardware. -/
inductive Refusal where
  /-- Raised by an arm of `exec` whose instruction has no meaning yet; this model has no such arm. Safe. -/
  | notModelled (mnemonic : String)
  /-- Raised by the fetch of a cycle record that holds a RESERVED word: "A model must refuse a RESERVED stimulus word"
  (60_exceptions.md R220, 30_encoding.md R79). Safe. -/
  | reservedWord (why : ReservedCase)
  /-- Raised by the fetch of a cycle record whose host word is an EV word, which R74 does not allow (log 8). Safe. -/
  | eventWordAsHost
  /-- Raised by the fetch of a cycle record whose event word is an HR or HW word, which R74 does not allow (log 8).
  Safe. -/
  | hostWordAsEvent
deriving DecidableEq, Repr

/-- The machine right after reset: every field of R49 at its value, the synchroniser ends 0 (R49), `bus_rdata` at the
0x0000 of a reset cycle (43_host_bus.md R200) (log 6), the parameters of Config (log 3), and nothing queued (log 1). -/
def State.reset : State where
  tpdState := .idle
  tpdCnt := 0
  tpdShreg := 0
  tpdBitcnt := 0
  tpdDone := false
  tpdResult := .none
  tpdStage := .none
  frameHum := 0
  frameTemp := 0
  frameRxCsum := 0
  frameCalcCsum := 0
  tempSigned := 0
  qdSnap := 0
  qdPrimed := false
  qdLastRot := .zero
  qdLastEdge := false
  menuIndex := 0
  menuPending := false
  line := false
  pins := 0
  busRdata := some 0
  params := Config.params
  stimulus := []
  cycle := 0

end Sys2Proof.Machine
end

