-- ==== Sys2Proof/Machine/Operands.lean ====
section
/-! DEFINITION. The operand forms of SWQD: the START bit of a CTRL write (spec/30_encoding.md R75), the signals of a
snapshot (41_quadrature.md R140, R143), the bytes of a frame (40_tpd.md R116), and the codes of the enumerated fields
(10_state.md R30, R35, R36, R39). -/

namespace Sys2Proof.Machine

/-- START = WDATA[0] (R75, R41). -/
def startBit (wdata : RegWord) : Bool := wdata.getLsbD 0

/-- phaseA of a snapshot, bit 0 (R140). -/
def phaseA (snap : Snapshot) : Bool := snap.getLsbD 0

/-- phaseB of a snapshot, bit 1 (R140). -/
def phaseB (snap : Snapshot) : Bool := snap.getLsbD 1

/-- ButtonPressed(cur), bit 2 (R143). -/
def buttonPressed (snap : Snapshot) : Bool := snap.getLsbD 2

/-- SwitchLevel(cur), bit 3 (R143). No rule reads it. -/
def switchLevel (snap : Snapshot) : Bool := snap.getLsbD 3

/-- b0, humidityHi: bits 39:32 of `tpd_shreg` (R116). -/
def frameByte0 (shreg : BitVec 40) : Byte := shreg.extractLsb' 32 8

/-- b1, humidityLo: bits 31:24 (R116). -/
def frameByte1 (shreg : BitVec 40) : Byte := shreg.extractLsb' 24 8

/-- b2, tempHi: bits 23:16 (R116). -/
def frameByte2 (shreg : BitVec 40) : Byte := shreg.extractLsb' 16 8

/-- b3, tempLo: bits 15:8 (R116). -/
def frameByte3 (shreg : BitVec 40) : Byte := shreg.extractLsb' 8 8

/-- b4, checksum: bits 7:0 (R116). -/
def frameByte4 (shreg : BitVec 40) : Byte := shreg.extractLsb' 0 8

/-- The code of a TPD state (R30). -/
def TpdState.code : TpdState → BitVec 4
  | .idle => 0
  | .startLow => 1
  | .release => 2
  | .ack1 => 3
  | .ack2 => 4
  | .ack3 => 5
  | .bitRise => 6
  | .bitDelay => 7
  | .bitFall => 8

/-- The RESULT code of an outcome (R35, R210). -/
def TpdResult.code : TpdResult → BitVec 3
  | .none => 0
  | .ok => 1
  | .ackTimeout => 2
  | .bitTimeout => 3
  | .checksumMismatch => 4

/-- The STAGE code of a timeout (R36, R211). -/
def TpdStage.code : TpdStage → BitVec 3
  | .none => 0
  | .ack1 => 1
  | .ack2 => 2
  | .ack3 => 3
  | .bitRise => 4
  | .bitFall => 5

/-- The LAST_ROT code of a rotation (R39, R146). -/
def Rotation.code : Rotation → BitVec 2
  | .zero => 0b00
  | .plus => 0b01
  | .minus => 0b11

/-- The integer a rotation stands for (R142). -/
def Rotation.delta : Rotation → Int
  | .zero => 0
  | .plus => 1
  | .minus => -1

end Sys2Proof.Machine
end

