-- ==== Sys2Proof/Machine/Flags.lean ====
section
/-! DEFINITION. What is computed from the state or from a frame: the flag BUSY and the port `dq_drive_low`
(spec/10_state.md R23, R27), the register words (R41 to R48), the checksum, the temperature (40_tpd.md R117, R119), the
rotation and the button edge (41_quadrature.md R142, R144), and the outcome of a timeout (40_tpd.md R110). -/

namespace Sys2Proof.Machine

/-- BUSY = 1 exactly when `tpd_state` ≠ IDLE (R27). -/
def State.busy (s : State) : Bool := s.tpdState != .idle

/-- `dq_drive_low` = 1 exactly when `S.tpd_state` = START_LOW (R23). -/
def State.dqDriveLow (s : State) : Bool := s.tpdState == .startLow

/-- The word of TPD_STATUS (R42, 43_host_bus.md R183). -/
def tpdStatusWord (s : State) : RegWord :=
  0#2 ++ s.tpdBitcnt ++ s.tpdStage.code ++ s.tpdResult.code ++ BitVec.ofBool s.tpdDone ++ BitVec.ofBool s.busy

/-- The word of FRAME_CSUM (R45, R186). -/
def frameCsumWord (s : State) : RegWord := s.frameCalcCsum ++ s.frameRxCsum

/-- The word of QD_STATUS (R47, R188). -/
def qdStatusWord (s : State) : RegWord :=
  0#8 ++ BitVec.ofBool s.qdLastEdge ++ s.qdLastRot.code ++ BitVec.ofBool s.qdPrimed ++ s.qdSnap

/-- The word of MENU_STATE and of MENU_CONSUME (R48, R189, R190). -/
def menuWord (s : State) : RegWord := 0#7 ++ BitVec.ofBool s.menuPending ++ s.menuIndex

/-- `calc`: the low 8 bits of the integer sum of b0 to b3 (R117). -/
def checksumOf (shreg : BitVec 40) : Byte :=
  BitVec.ofNat 8 ((frameByte0 shreg).toNat + (frameByte1 shreg).toNat + (frameByte2 shreg).toNat
    + (frameByte3 shreg).toNat)

/-- `valid`: the computed checksum is the byte received (R117). -/
def frameValid (shreg : BitVec 40) : Bool := checksumOf shreg == frameByte4 shreg

/-- `hum_tenths` = {b0, b1} (R118). -/
def humidityRaw (shreg : BitVec 40) : RegWord := frameByte0 shreg ++ frameByte1 shreg

/-- `raw` = {b2, b3} (R119). -/
def temperatureRaw (shreg : BitVec 40) : RegWord := frameByte2 shreg ++ frameByte3 shreg

/-- `temp_tenths`: the sign-magnitude word as an integer (R119). -/
def temperatureTenths (raw : RegWord) : Int :=
  if raw.getLsbD 15 then - (raw.extractLsb' 0 15).toNat else (raw.extractLsb' 0 15).toNat

/-- The outcome of a wait that ran out of budget at this stage (R110). -/
def timeoutResult : TpdStage → TpdResult
  | .none => .bitTimeout
  | .ack1 => .ackTimeout
  | .ack2 => .ackTimeout
  | .ack3 => .ackTimeout
  | .bitRise => .bitTimeout
  | .bitFall => .bitTimeout

/-- Rotation(cur, prev): an event only on a rise of phaseA, its sign the current phaseB (R142). -/
def rotationOf (cur prev : Snapshot) : Rotation :=
  if phaseA prev = false ∧ phaseA cur = true then
    if phaseB cur = true then .plus else .minus
  else .zero

/-- ButtonEdge(cur, prev): the button rises (R144). -/
def buttonEdge (cur prev : Snapshot) : Bool := !buttonPressed prev && buttonPressed cur

/-- The rotation a sample finds: none before the block is primed (R145). -/
def sampledRotation (s : State) : Rotation := if s.qdPrimed then rotationOf s.pins s.qdSnap else .zero

/-- The button edge a sample finds: none before the block is primed (R145). -/
def sampledEdge (s : State) : Bool := s.qdPrimed && buttonEdge s.pins s.qdSnap

/-- `clamp(v, lo, hi)` on integers (00_scope.md R16). -/
def clamp (v lo hi : Int) : Int := if v < lo then lo else if v > hi then hi else v

end Sys2Proof.Machine
end

