-- ==== Sys2Proof/Machine/Ops.lean ====
section
/-! DEFINITION. The named operations of SWQD over its state: the TPD's attempt (spec/40_tpd.md R100 to R122), the sample
(41_quadrature.md R146), the menu (42_menu.md R161 to R163), the host's register accesses (00_scope.md R18, 20_memory.md
R51 to R53) and reset (70_reset_and_hazards.md R230).

SWQD has no traps (60_exceptions.md R216). Its one shared "exception entry" is `endAttempt`, the spec's
`raise Outcome(code, stage)`: it records the outcome and returns the TPD to IDLE. There is no return from it; a new START
(`startAttempt`) is the recovery (R217). -/

namespace Sys2Proof.Machine

/-! ## The timing-protocol decoder -/

/-- StartAttempt (R100): enter START_LOW and clear every field of the last attempt. -/
def startAttempt (s : State) : State :=
  { s with
    tpdState := .startLow
    tpdCnt := 0
    tpdShreg := 0
    tpdBitcnt := 0
    tpdDone := false
    tpdResult := .none
    tpdStage := .none
    frameHum := 0
    frameTemp := 0
    frameRxCsum := 0
    frameCalcCsum := 0
    tempSigned := 0 }

/-- EndAttempt(code, stage), which is `raise Outcome(code, stage)` (R122). -/
def endAttempt (code : TpdResult) (stage : TpdStage) (s : State) : State :=
  { s with tpdState := .idle, tpdCnt := 0, tpdDone := true, tpdResult := code, tpdStage := stage }

/-- Enter another TPD state: every change of `tpd_state` sets `tpd_cnt` to 0 (10_state.md R31). -/
def enterState (st : TpdState) (s : State) : State := { s with tpdState := st, tpdCnt := 0 }

/-- Count one more tick in the current TPD state (R31). -/
def countTick (s : State) : State := { s with tpdCnt := s.tpdCnt + 1 }

/-- SampleBit(b): shift left, the new bit into bit 0 (R114). -/
def sampleBit (b : Level) (s : State) : State :=
  { s with tpdShreg := s.tpdShreg.extractLsb' 0 39 ++ BitVec.ofBool b, tpdBitcnt := s.tpdBitcnt + 1 }

/-- The raw bytes and both checksums of the received frame into their registers (R120, R121). -/
def writeFrame (s : State) : State :=
  { s with
    frameHum := humidityRaw s.tpdShreg
    frameTemp := temperatureRaw s.tpdShreg
    frameRxCsum := frameByte4 s.tpdShreg
    frameCalcCsum := checksumOf s.tpdShreg }

/-- `temp_signed` from the received frame, as two's complement (R119, R120). -/
def writeTemperature (s : State) : State :=
  { s with tempSigned := BitVec.ofInt 16 (temperatureTenths (temperatureRaw s.tpdShreg)) }

/-- Finish: the 40th bit's fall has come; validate and decode (R117 to R121). -/
def finish (s : State) : State :=
  if frameValid s.tpdShreg then endAttempt .ok .none (writeTemperature (writeFrame s))
  else endAttempt .checksumMismatch .none (writeFrame s)

/-- Hold(n, next): one tick of a fixed delay of `n` ticks (R111). The count is compared on integers (log 5). -/
def hold (n : BitVec 16) (next : TpdState) (s : State) : State :=
  if s.tpdCnt.toNat + 1 = n.toNat then enterState next s else countTick s

/-- Wait(target, budget, next, stage): one tick of a bounded wait (R110). Success has priority over timeout. -/
def wait (target : Level) (budget : BitVec 16) (next : WaitNext) (stage : TpdStage) (s : State) : State :=
  if s.line = target then
    match next with
    | .goto st => enterState st s
    | .finish => finish s
  else if s.tpdCnt = budget then endAttempt (timeoutResult stage) stage s
  else countTick s

/-- SampleAfterOffset: one tick of BIT_DELAY (R113). -/
def sampleAfterOffset (s : State) : State :=
  if s.tpdCnt.toNat + 1 = s.params.sampleOffset.toNat then enterState .bitFall (sampleBit s.line s) else countTick s

/-- Where BIT_FALL goes: FINISH after the 40th bit, else the next bit (R115). -/
def afterBitFall (s : State) : WaitNext := if s.tpdBitcnt = 40 then .finish else .goto .bitRise

/-- TpdTick: one tick, by the state it finds (R102 to R115). -/
def tpdTick (s : State) : State :=
  match s.tpdState with
  | .idle => s
  | .startLow => hold s.params.tStartLow .release s
  | .release => hold s.params.tRelease .ack1 s
  | .ack1 => wait false s.params.ackBudget (.goto .ack2) .ack1 s
  | .ack2 => wait true s.params.ackBudget (.goto .ack3) .ack2 s
  | .ack3 => wait false s.params.ackBudget (.goto .bitRise) .ack3 s
  | .bitRise => wait true s.params.bitBudget (.goto .bitDelay) .bitRise s
  | .bitDelay => sampleAfterOffset s
  | .bitFall => wait false s.params.bitBudget (afterBitFall s) .bitFall s

/-! ## The menu and the quadrature decoder -/

/-- ApplyRotation(delta): the clamp is on integers, then stored as u8 (R161). -/
def applyRotation (delta : Int) (s : State) : State :=
  { s with menuIndex := BitVec.ofInt 8 (clamp (s.menuIndex.toNat + delta) 0 s.params.max.toNat) }

/-- ApplyButtonEdge() (R162). -/
def applyButtonEdge (s : State) : State := { s with menuPending := true }

/-- ConsumePendingAction(), its write (R163); the flag it returns is in the word the read returns (R190). -/
def consumePendingAction (s : State) : State := { s with menuPending := false }

/-- The sample's own fields: the new previous snapshot and the event found (R146). -/
def storeSample (cur : Snapshot) (rot : Rotation) (edge : Bool) (s : State) : State :=
  { s with qdSnap := cur, qdPrimed := true, qdLastRot := rot, qdLastEdge := edge }

/-- QdSample: one periodic-task sample (R146). What it finds is computed from the state before it. -/
def qdSample (s : State) : State :=
  storeSample s.pins (sampledRotation s) (sampledEdge s)
    (if sampledEdge s then applyButtonEdge (applyRotation (sampledRotation s).delta s)
     else applyRotation (sampledRotation s).delta s)

/-! ## The host's register accesses -/

/-- ReadValue(S, addr): the word of each register (20_memory.md R51, 43_host_bus.md R182 to R191). -/
def readValue (addr : RegAddr) (s : State) : RegWord :=
  match addr.toNat with
  | 0x1 => tpdStatusWord s
  | 0x2 => s.frameHum
  | 0x3 => s.frameTemp
  | 0x4 => frameCsumWord s
  | 0x5 => s.tempSigned
  | 0x6 => qdStatusWord s
  | 0x7 => menuWord s
  | 0x8 => menuWord s
  | _ => 0

/-- The read side effect of each register: only MENU_CONSUME has one (R51, R57). -/
def readEffect (addr : RegAddr) (s : State) : State :=
  match addr.toNat with
  | 0x8 => consumePendingAction s
  | _ => s

/-- Put a value on `bus_rdata` for this cycle (10_state.md R20). -/
def returnData (value : RegWord) (s : State) : State := { s with busRdata := some value }

/-- MemRead(addr, 2): the value is of the state before the read's own effect (R18, R180). -/
def hostRead (addr : RegAddr) (s : State) : State := returnData (readValue addr s) (readEffect addr s)

/-- `start_acc`: a write of START to CTRL while the TPD is idle (R200). -/
def startAccepted (wdata : RegWord) (s : State) : Bool := startBit wdata && s.tpdState == .idle

/-- MemWrite(addr, 2, v): CTRL starts an attempt, every other write is ignored (R18, R53, R181, R192). -/
def hostWrite (addr : RegAddr) (wdata : RegWord) (s : State) : State :=
  match addr.toNat with
  | 0x0 => if startAccepted wdata s then startAttempt s else s
  | _ => s

/-! ## Reset and the inputs of a cycle -/

/-- A cycle with `rst` = 1: the reset state of R49 whatever the state was, 0x0000 on `bus_rdata` (R200, R230). The
model's own fields are no flip-flops of SWQD and stay. -/
def resetState (s : State) : State :=
  { State.reset with params := s.params, stimulus := s.stimulus, cycle := s.cycle }

/-- The start of a cycle: take the record's input levels, no read data yet, one record off the queue (R74). -/
def beginCycle (line : Level) (pins : Snapshot) (rest : List CycleRecord) (s : State) : State :=
  { s with line := line, pins := pins, busRdata := none, stimulus := rest, cycle := s.cycle + 1 }

end Sys2Proof.Machine
end

