-- ==== Sys2Proof/Machine/Events.lean ====
section
/-! DEFINITION. The meanings of the events: the tick (spec/40_tpd.md R102), the sample (41_quadrature.md R146), both
(43_host_bus.md R194), neither (R193), and reset (70_reset_and_hazards.md R230). They read the `line` and `pins` of the
current cycle, which the state holds. A tick that R200(b) drops never reaches EV.US: see `dropTick`. -/

namespace Sys2Proof.Machine

/-- EV.NOP: no tick, no sample, no reset; no effect (R193). -/
def execEvNop (s : State) : Host.Outcome State Fault Refusal := .next s

/-- EV.US: one TPD tick (R102). -/
def execEvUs (s : State) : Host.Outcome State Fault Refusal := .next (tpdTick s)

/-- EV.QD: one periodic-task sample (R146). -/
def execEvQd (s : State) : Host.Outcome State Fault Refusal := .next (qdSample s)

/-- EV.US_QD: a tick and a sample in one cycle, in the order of R201; they write disjoint fields (R194). -/
def execEvUsQd (s : State) : Host.Outcome State Fault Refusal := .next (tpdTick (qdSample s))

/-- EV.RST: the next state is the reset state, whatever the state was; the bits QD and US are don't-care (R230, R73). -/
def execEvRst (_dontCare : BitVec 2) (s : State) : Host.Outcome State Fault Refusal := .next (resetState s)

end Sys2Proof.Machine
end

