-- ==== Sys2Proof/Machine/HostReads.lean ====
section
/-! DEFINITION. The meanings of the host reads (spec/43_host_bus.md R182 to R191). Each is one `MemRead(addr, 2)`: the
word of the register in the state before the cycle's effects (R180), and the read's side effect, which only MENU_CONSUME
has (20_memory.md R57). -/

namespace Sys2Proof.Machine

/-- RD.CTRL, `MemRead(0x0, 2)`: CTRL holds no state and reads 0x0000 (R182). -/
def execRdCtrl (s : State) : Host.Outcome State Fault Refusal := .next (hostRead 0x0 s)

/-- RD.TPD_STATUS, `MemRead(0x1, 2)` (R183). -/
def execRdTpdStatus (s : State) : Host.Outcome State Fault Refusal := .next (hostRead 0x1 s)

/-- RD.FRAME_HUM, `MemRead(0x2, 2)` (R184). -/
def execRdFrameHum (s : State) : Host.Outcome State Fault Refusal := .next (hostRead 0x2 s)

/-- RD.FRAME_TEMP, `MemRead(0x3, 2)`: sign-magnitude, as received (R185). -/
def execRdFrameTemp (s : State) : Host.Outcome State Fault Refusal := .next (hostRead 0x3 s)

/-- RD.FRAME_CSUM, `MemRead(0x4, 2)` (R186). -/
def execRdFrameCsum (s : State) : Host.Outcome State Fault Refusal := .next (hostRead 0x4 s)

/-- RD.TEMP_SIGNED, `MemRead(0x5, 2)` (R187). -/
def execRdTempSigned (s : State) : Host.Outcome State Fault Refusal := .next (hostRead 0x5 s)

/-- RD.QD_STATUS, `MemRead(0x6, 2)` (R188). -/
def execRdQdStatus (s : State) : Host.Outcome State Fault Refusal := .next (hostRead 0x6 s)

/-- RD.MENU_STATE, `MemRead(0x7, 2)`: no side effect (R189). -/
def execRdMenuState (s : State) : Host.Outcome State Fault Refusal := .next (hostRead 0x7 s)

/-- RD.MENU_CONSUME, `MemRead(0x8, 2)`: the menu word, and ConsumePendingAction (R190, R163). -/
def execRdMenuConsume (s : State) : Host.Outcome State Fault Refusal := .next (hostRead 0x8 s)

/-- RD.RSVD at address 0x9 (R191). -/
def execRdRsvd9 (s : State) : Host.Outcome State Fault Refusal := .next (hostRead 0x9 s)

/-- RD.RSVD at address 0xA or 0xB (R191). -/
def execRdRsvdAB (addr : RegAddr) (s : State) : Host.Outcome State Fault Refusal := .next (hostRead addr s)

/-- RD.RSVD at address 0xC to 0xF (R191). -/
def execRdRsvdCF (addr : RegAddr) (s : State) : Host.Outcome State Fault Refusal := .next (hostRead addr s)

end Sys2Proof.Machine
end

