-- ==== Sys2Proof/Machine/HostWrites.lean ====
section
/-! DEFINITION. The meanings of the host writes (spec/43_host_bus.md R181 and R192). Each is one `MemWrite(addr, 2, v)`;
only a START written to CTRL has an effect (20_memory.md R53, R57). -/

namespace Sys2Proof.Machine

/-- WR.CTRL, `MemWrite(0x0, 2, v)`: START when idle begins an attempt, else no effect (R181). -/
def execWrCtrl (wdata : RegWord) (s : State) : Host.Outcome State Fault Refusal :=
  .next (hostWrite 0x0 wdata s)

/-- WR.IGNORED at address 0x1 (R192). -/
def execWrIgnored1 (wdata : RegWord) (s : State) : Host.Outcome State Fault Refusal :=
  .next (hostWrite 0x1 wdata s)

/-- WR.IGNORED at address 0x2 or 0x3 (R192). -/
def execWrIgnored23 (addr : RegAddr) (wdata : RegWord) (s : State) : Host.Outcome State Fault Refusal :=
  .next (hostWrite addr wdata s)

/-- WR.IGNORED at address 0x4 to 0x7 (R192). -/
def execWrIgnored47 (addr : RegAddr) (wdata : RegWord) (s : State) : Host.Outcome State Fault Refusal :=
  .next (hostWrite addr wdata s)

/-- WR.IGNORED at address 0x8 to 0xF; a write to MENU_CONSUME does not consume (R192). -/
def execWrIgnored8F (addr : RegAddr) (wdata : RegWord) (s : State) : Host.Outcome State Fault Refusal :=
  .next (hostWrite addr wdata s)

end Sys2Proof.Machine
end

