-- ==== Sys2Proof/Machine/Dispatch.lean ====
section
/-! DEFINITION. The dispatch: one arm per constructor of `Instr`, each a direct call of its meaning. -/

namespace Sys2Proof.Machine

-- One stimulus word acting on the state within its cycle; Cycle.lean puts the words of one cycle together.
def exec (i : Instr) (s : State) : Host.Outcome State Fault Refusal :=
  match i with
  | .rdCtrl => Sys2Proof.Machine.execRdCtrl s
  | .rdTpdStatus => Sys2Proof.Machine.execRdTpdStatus s
  | .rdFrameHum => Sys2Proof.Machine.execRdFrameHum s
  | .rdFrameTemp => Sys2Proof.Machine.execRdFrameTemp s
  | .rdFrameCsum => Sys2Proof.Machine.execRdFrameCsum s
  | .rdTempSigned => Sys2Proof.Machine.execRdTempSigned s
  | .rdQdStatus => Sys2Proof.Machine.execRdQdStatus s
  | .rdMenuState => Sys2Proof.Machine.execRdMenuState s
  | .rdMenuConsume => Sys2Proof.Machine.execRdMenuConsume s
  | .rdRsvd9 => Sys2Proof.Machine.execRdRsvd9 s
  | .rdRsvdAB addr => Sys2Proof.Machine.execRdRsvdAB addr s
  | .rdRsvdCF addr => Sys2Proof.Machine.execRdRsvdCF addr s
  | .wrCtrl wdata => Sys2Proof.Machine.execWrCtrl wdata s
  | .wrIgnored1 wdata => Sys2Proof.Machine.execWrIgnored1 wdata s
  | .wrIgnored23 addr wdata => Sys2Proof.Machine.execWrIgnored23 addr wdata s
  | .wrIgnored47 addr wdata => Sys2Proof.Machine.execWrIgnored47 addr wdata s
  | .wrIgnored8F addr wdata => Sys2Proof.Machine.execWrIgnored8F addr wdata s
  | .evNop => Sys2Proof.Machine.execEvNop s
  | .evUs => Sys2Proof.Machine.execEvUs s
  | .evQd => Sys2Proof.Machine.execEvQd s
  | .evUsQd => Sys2Proof.Machine.execEvUsQd s
  | .evRst dontCare => Sys2Proof.Machine.execEvRst dontCare s

end Sys2Proof.Machine
end

