-- ==== Sys2Proof/Machine/Fetch.lean ====
section
/-! DEFINITION. Where a step's operations come from: the cycle record the environment gives (spec/30_encoding.md R74), its
words decoded, and the mapping of a record onto the ports (R85). -/

namespace Sys2Proof.Machine

/-- The event word of a cycle in which no event is given (R74, R83). -/
def noEventWord : StimulusWord := 0x800000

/-- The cycle record of one cycle's port levels (R85). -/
def recordOfInputs (c : CycleInputs) : CycleRecord where
  host := if c.busSel then some (if c.busWe then hwWord c.busAddr c.busWdata else hrWord c.busAddr) else none
  ev := evWord (BitVec.ofBool c.rst ++ BitVec.ofBool c.qdTick ++ BitVec.ofBool c.usTick)
  line := c.line
  pins := c.pins

/-- The record of the next cycle: the first one queued, else what the environment drives in that cycle, a free draw
(R19, 60_exceptions.md R225) (log 1). -/
def State.nextRecord (s : State) : CycleRecord :=
  match s.stimulus with
  | [] => recordOfInputs (Config.environment s.cycle)
  | r :: _ => r

/-- The instruction is of format EV (R73). -/
def isEvent : Instr → Bool
  | .rdCtrl => false
  | .rdTpdStatus => false
  | .rdFrameHum => false
  | .rdFrameTemp => false
  | .rdFrameCsum => false
  | .rdTempSigned => false
  | .rdQdStatus => false
  | .rdMenuState => false
  | .rdMenuConsume => false
  | .rdRsvd9 => false
  | .rdRsvdAB _ => false
  | .rdRsvdCF _ => false
  | .wrCtrl _ => false
  | .wrIgnored1 _ => false
  | .wrIgnored23 _ _ => false
  | .wrIgnored47 _ _ => false
  | .wrIgnored8F _ _ => false
  | .evNop => true
  | .evUs => true
  | .evQd => true
  | .evUsQd => true
  | .evRst _ => true

/-- Reset is asserted by the event (R73). -/
def isReset : Instr → Bool
  | .rdCtrl => false
  | .rdTpdStatus => false
  | .rdFrameHum => false
  | .rdFrameTemp => false
  | .rdFrameCsum => false
  | .rdTempSigned => false
  | .rdQdStatus => false
  | .rdMenuState => false
  | .rdMenuConsume => false
  | .rdRsvd9 => false
  | .rdRsvdAB _ => false
  | .rdRsvdCF _ => false
  | .wrCtrl _ => false
  | .wrIgnored1 _ => false
  | .wrIgnored23 _ _ => false
  | .wrIgnored47 _ _ => false
  | .wrIgnored8F _ _ => false
  | .evNop => false
  | .evUs => false
  | .evQd => false
  | .evUsQd => false
  | .evRst _ => true

/-- The words of one cycle record, decoded: at most one host transaction, and one event (R74). -/
structure Cycle where
  host : Option Instr
  ev : Instr
deriving DecidableEq, Repr

/-- The host word of a record: an HR or HW word (R74). -/
def fetchHost (w : StimulusWord) : Except Refusal Instr :=
  match decode w with
  | .reserved why => .error (.reservedWord why)
  | .instr i => if isEvent i then .error .eventWordAsHost else .ok i

/-- The event word of a record: an EV word (R74). -/
def fetchEvent (w : StimulusWord) : Except Refusal Instr :=
  match decode w with
  | .reserved why => .error (.reservedWord why)
  | .instr i => if isEvent i then .ok i else .error .hostWordAsEvent

/-- Decode a cycle record, or refuse it: a RESERVED word (R79, 60_exceptions.md R220), or a word in the other's place
(log 8). -/
def fetch (r : CycleRecord) : Except Refusal Cycle :=
  match r.host with
  | none =>
    match fetchEvent r.ev with
    | .error why => .error why
    | .ok e => .ok { host := none, ev := e }
  | some w =>
    match fetchHost w with
    | .error why => .error why
    | .ok h =>
      match fetchEvent r.ev with
      | .error why => .error why
      | .ok e => .ok { host := some h, ev := e }

/-- The cycle record that holds one stimulus word and nothing else: an HR or HW word as the host word with no event,
any other word as the event word (R74). -/
def recordOfWord (w : StimulusWord) (line : Level) (pins : Snapshot) : CycleRecord :=
  if (kindOf w).toNat < 2 then { host := some w, ev := noEventWord, line := line, pins := pins }
  else { host := none, ev := w, line := line, pins := pins }

end Sys2Proof.Machine
end

