-- ==== Sys2Proof/Machine/Cycle.lean ====
section
/-! DEFINITION. The whole cycle (spec/43_host_bus.md R200), as the sequence of single operations R201 says it equals:
the host transaction, then the sample, then the tick, with the tick skipped after an accepted START (log 4). -/

namespace Sys2Proof.Machine

/-- The event without its tick: "An accepted START and a tick in the same cycle: the tick is dropped" (R200(b)). -/
def dropTick : Instr → Instr
  | .rdCtrl => .rdCtrl
  | .rdTpdStatus => .rdTpdStatus
  | .rdFrameHum => .rdFrameHum
  | .rdFrameTemp => .rdFrameTemp
  | .rdFrameCsum => .rdFrameCsum
  | .rdTempSigned => .rdTempSigned
  | .rdQdStatus => .rdQdStatus
  | .rdMenuState => .rdMenuState
  | .rdMenuConsume => .rdMenuConsume
  | .rdRsvd9 => .rdRsvd9
  | .rdRsvdAB addr => .rdRsvdAB addr
  | .rdRsvdCF addr => .rdRsvdCF addr
  | .wrCtrl wdata => .wrCtrl wdata
  | .wrIgnored1 wdata => .wrIgnored1 wdata
  | .wrIgnored23 addr wdata => .wrIgnored23 addr wdata
  | .wrIgnored47 addr wdata => .wrIgnored47 addr wdata
  | .wrIgnored8F addr wdata => .wrIgnored8F addr wdata
  | .evNop => .evNop
  | .evUs => .evNop
  | .evQd => .evQd
  | .evUsQd => .evQd
  | .evRst dontCare => .evRst dontCare

/-- `start_acc` of R200: the host transaction is a START that the state accepts. -/
def acceptsStart (h : Instr) (s : State) : Bool :=
  match h with
  | .rdCtrl => false
  | .rdTpdStatus => false
  | .rdFrameHum => false
  | .rdFrameTemp => false
  | .rdFrameCsum => false
  | .rdTempSigned => false
  | .rdQdStatus => false
  | .rdMenuState => false
  | .rdMenuConsume => false
  | .rdRsvd9 => false
  | .rdRsvdAB _ => false
  | .rdRsvdCF _ => false
  | .wrCtrl wdata => startAccepted wdata s
  | .wrIgnored1 _ => false
  | .wrIgnored23 _ _ => false
  | .wrIgnored47 _ _ => false
  | .wrIgnored8F _ _ => false
  | .evNop => false
  | .evUs => false
  | .evQd => false
  | .evUsQd => false
  | .evRst _ => false

/-- The cycle's operations on the state at its start (R200, R201). In a reset cycle the host is ignored (R230). -/
def runCycle (c : Cycle) (s : State) : Host.Outcome State Fault Refusal :=
  match c.host with
  | none => exec c.ev s
  | some h =>
    if isReset c.ev then exec c.ev s
    else
      match exec h s with
      | .next t => exec (if acceptsStart h s then dropTick c.ev else c.ev) t
      | .fault why => .fault why
      | .refused why => .refused why

/-- One cycle of `clk` (00_scope.md R3): take the next cycle record, decode it, run it. -/
def stepCycle (s : State) : Host.Outcome State Fault Refusal :=
  match fetch s.nextRecord with
  | .error why => .refused why
  | .ok c => runCycle c (beginCycle s.nextRecord.line s.nextRecord.pins s.stimulus.tail s)

end Sys2Proof.Machine
end

