-- ==== Sys2Proof/Machine/Step.lean ====
section
/-! DEFINITION. One step of the machine is one cycle of `clk` (spec/00_scope.md R3), and how a stimulus word is put where
the next step takes it. -/

namespace Sys2Proof.Machine

/-- One step: the whole cycle of 43_host_bus.md R200. -/
def step (s : State) : Host.Outcome State Fault Refusal := stepCycle s

/-- `s` with a cycle record of this one stimulus word queued in front, its input levels those the state holds (an input
keeps its value until it is set again, 30_encoding.md R83): the very next step runs exactly this word. A stimulus word is
24 bits (R81), so `nbits` is not needed (log 1). -/
def State.withFetchWord (s : State) (_nbits w : Nat) : State :=
  { s with stimulus := recordOfWord (BitVec.ofNat 24 w) s.line s.pins :: s.stimulus }

end Sys2Proof.Machine
end

