-- ==== Sys2Proof/Machine/Stimulus.lean ====
section
/-! DEFINITION. The assembler's operations, cycle lines and pseudo-instructions (spec/30_encoding.md R82 to R84), as
abstract syntax that assembles to cycle records. Reading the characters of a program text is left out (log 12). -/

namespace Sys2Proof.Machine

/-- A host operation of R82: `rd <REG>` or `wr <REG>, <imm16>`. -/
inductive HostOp where
  | rd (reg : RegAddr)
  | wr (reg : RegAddr) (imm16 : RegWord)
deriving DecidableEq, Repr

/-- An event operation of R82. -/
inductive EvOp where
  | nop
  | us
  | qd
  | usQd
  | rst
deriving DecidableEq, Repr

/-- The word of a host operation (R82). -/
def HostOp.word : HostOp → StimulusWord
  | .rd reg => hrWord reg
  | .wr reg imm16 => hwWord reg imm16

/-- The word of an event operation (R82). -/
def EvOp.word : EvOp → StimulusWord
  | .nop => 0x800000
  | .us => 0x800001
  | .qd => 0x800002
  | .usQd => 0x800003
  | .rst => 0x800004

/-- One line of a program, which is one cycle: `<host-op> [| <ev-op>] [@ <inputs>]` or `<ev-op> [@ <inputs>]` (R83). -/
structure CycleLine where
  host : Option HostOp
  ev : Option EvOp
  dq : Option Level
  enc : Option Snapshot
deriving DecidableEq, Repr

/-- A line holds a host operation or an event operation (R83). -/
def CycleLine.wellFormed (l : CycleLine) : Bool := l.host.isSome || l.ev.isSome

/-- A line of source text: a cycle line, or a pseudo-instruction of R84. -/
inductive SourceLine where
  | cycle (l : CycleLine)
  | start
  | poll
  | consume
  | peek
  | qsample (enc : Snapshot)
  | usn (n : Nat) (dq : Level)
  | pulse (lo hi : Nat)
  | idle (n : Nat)
deriving DecidableEq, Repr

/-- The tick lines `usn <n> @ dq=<v>` stands for (R84). -/
def tickLines (n : Nat) (dq : Level) : List CycleLine :=
  List.replicate n { host := none, ev := some .us, dq := some dq, enc := none }

/-- The line of a single host operation. -/
def hostLine (op : HostOp) : CycleLine := { host := some op, ev := none, dq := none, enc := none }

/-- The expansion of a source line (R84); `none` where the rule does not allow it (`usn` needs n ≥ 1). -/
def SourceLine.expand : SourceLine → Option (List CycleLine)
  | .cycle l => if l.wellFormed then some [l] else none
  | .start => some [hostLine (.wr 0x0 0x0001)]
  | .poll => some [hostLine (.rd 0x1)]
  | .consume => some [hostLine (.rd 0x8)]
  | .peek => some [hostLine (.rd 0x7)]
  | .qsample enc => some [{ host := none, ev := some .qd, dq := none, enc := some enc }]
  | .usn n dq => if n = 0 then none else some (tickLines n dq)
  | .pulse lo hi => if lo = 0 ∨ hi = 0 then none else some (tickLines lo false ++ tickLines hi true)
  | .idle n => some (List.replicate n { host := none, ev := some .nop, dq := none, enc := none })

/-- The lines of a program after expansion. -/
def expandAll : List SourceLine → Option (List CycleLine)
  | [] => some []
  | l :: rest =>
    match l.expand, expandAll rest with
    | some here, some later => some (here ++ later)
    | _, _ => none

/-- The cycle records of a program's lines. An input keeps its value until a line sets it again, and a program states
both inputs on its first line, so a line with an input never set has no record (R83). -/
def recordsOf (dq : Option Level) (enc : Option Snapshot) : List CycleLine → Option (List CycleRecord)
  | [] => some []
  | l :: rest =>
    match l.dq.or dq, l.enc.or enc with
    | some line, some pins =>
      match recordsOf (some line) (some pins) rest with
      | some later =>
        some ({ host := l.host.map HostOp.word
                ev := match l.ev with
                  | some e => e.word
                  | none => noEventWord
                line := line
                pins := pins } :: later)
      | none => none
    | _, _ => none

/-- The cycle records of a program (R82 to R84). -/
def assemble (program : List SourceLine) : Option (List CycleRecord) :=
  match expandAll program with
  | some lines => recordsOf none none lines
  | none => none

end Sys2Proof.Machine
end

