-- ==== Sys2Proof/Safety.lean ====
section
/-! DEFINITION. What counts as a safe run of SWQD, in the terms the statements use: the invariant of the spec's fields,
the groups of fields the units own (spec/40_tpd.md R101, R126; 42_menu.md R165), the whole cycle of 43_host_bus.md R200
as its pseudocode writes it, the waveform of an attempt that ends OK (40_tpd.md R127), and the presses and consumes of a
run (42_menu.md R167). -/

namespace Sys2Proof.Machine

/-! ## The invariant -/

/-- The number of ticks after which the current TPD state is left at the latest (40_tpd.md R110, R111, R113); in IDLE the
count is 0. -/
def cntBound (s : State) : Nat :=
  match s.tpdState with
  | .idle => 1
  | .startLow => s.params.tStartLow.toNat
  | .release => s.params.tRelease.toNat
  | .ack1 => s.params.ackBudget.toNat + 1
  | .ack2 => s.params.ackBudget.toNat + 1
  | .ack3 => s.params.ackBudget.toNat + 1
  | .bitRise => s.params.bitBudget.toNat + 1
  | .bitDelay => s.params.sampleOffset.toNat
  | .bitFall => s.params.bitBudget.toNat + 1

/-- The fewest bits that can have been sampled in the current TPD state. -/
def bitcntLeast (s : State) : Nat :=
  match s.tpdState with
  | .bitFall => 1
  | _ => 0

/-- The most bits that can have been sampled in the current TPD state (10_state.md R33, 40_tpd.md R114). -/
def bitcntMost (s : State) : Nat :=
  match s.tpdState with
  | .idle => 40
  | .startLow => 0
  | .release => 0
  | .ack1 => 0
  | .ack2 => 0
  | .ack3 => 0
  | .bitRise => 39
  | .bitDelay => 39
  | .bitFall => 40

/-- The stage and the bit count that go with an outcome (60_exceptions.md R211 to R214). -/
def outcomeFits (result : TpdResult) (stage : TpdStage) (bitcnt : BitVec 6) : Bool :=
  match result, stage with
  | .none, .none => true
  | .ok, .none => bitcnt == 40
  | .checksumMismatch, .none => bitcnt == 40
  | .ackTimeout, .ack1 => bitcnt == 0
  | .ackTimeout, .ack2 => bitcnt == 0
  | .ackTimeout, .ack3 => bitcnt == 0
  | .bitTimeout, .bitRise => decide (bitcnt.toNat ≤ 39)
  | .bitTimeout, .bitFall => decide (1 ≤ bitcnt.toNat)
  | _, _ => false

/-- All 40 bits of the attempt arrived, so the result data fields hold a received frame (10_state.md R37). -/
def TpdResult.hasFrame : TpdResult → Bool
  | .none => false
  | .ok => true
  | .ackTimeout => false
  | .bitTimeout => false
  | .checksumMismatch => true

/-- The invariant of the state that every rule of the spec keeps. -/
structure State.Inv (s : State) : Prop where
  /-- The parameters are in their legal ranges (00_scope.md R6 to R13). -/
  params_legal : s.params.legal
  /-- `tpd_cnt` stays below the current state's length, so it never wraps (R31). -/
  cnt_bounded : s.tpdCnt.toNat < cntBound s
  /-- `tpd_bitcnt` is in the range of the current state (R33, R114). -/
  bitcnt_least : bitcntLeast s ≤ s.tpdBitcnt.toNat
  bitcnt_most : s.tpdBitcnt.toNat ≤ bitcntMost s
  /-- `tpd_shreg` holds only the bits received so far (R32). -/
  shreg_bounded : s.tpdShreg.toNat < 2 ^ s.tpdBitcnt.toNat
  /-- DONE = 1 exactly when an outcome is recorded (R34, R35). -/
  done_iff_result : s.tpdDone = true ↔ s.tpdResult ≠ .none
  /-- No outcome is recorded while an attempt is in progress (R100, R122). -/
  busy_no_result : s.busy = true → s.tpdResult = .none
  /-- Stage and bit count go with the outcome (R211 to R214). -/
  outcome_fits : outcomeFits s.tpdResult s.tpdStage s.tpdBitcnt = true
  /-- No partial data: without a whole frame every result data field is 0 (R37, R123). -/
  no_frame_zero : s.tpdResult.hasFrame = false →
    s.frameHum = 0 ∧ s.frameTemp = 0 ∧ s.frameRxCsum = 0 ∧ s.frameCalcCsum = 0
  /-- `temp_signed` is 0 unless the last attempt was OK (R46, R121). -/
  temp_only_ok : s.tpdResult ≠ .ok → s.tempSigned = 0
  /-- After OK the two checksums agree and `temp_signed` is the temperature of `frame_temp` (R119, R120). -/
  ok_values : s.tpdResult = .ok → s.frameCalcCsum = s.frameRxCsum ∧
    s.tempSigned = BitVec.ofInt 16 (temperatureTenths s.frameTemp)
  /-- After CHECKSUM_MISMATCH the two checksums differ (R214). -/
  mismatch_values : s.tpdResult = .checksumMismatch → s.frameCalcCsum ≠ s.frameRxCsum
  /-- The QD fields are at their reset values until the first sample, and nothing is pending (R38, R145). -/
  unprimed_zero : s.qdPrimed = false →
    s.qdSnap = 0 ∧ s.qdLastRot = .zero ∧ s.qdLastEdge = false ∧ s.menuPending = false
  /-- A rotation found shows in the stored snapshot: phaseA high, phaseB its sign (R39, R142). -/
  rot_in_snap : s.qdLastRot ≠ .zero →
    phaseA s.qdSnap = true ∧ (phaseB s.qdSnap = true ↔ s.qdLastRot = .plus)
  /-- A button edge found shows in the stored snapshot (R39, R144). -/
  edge_in_snap : s.qdLastEdge = true → buttonPressed s.qdSnap = true
  /-- The menu index is in [0, MAX] (R28). -/
  index_in_range : s.menuIndex.toNat ≤ s.params.max.toNat

/-! ## Reserved words -/

/-- The four cases of 30_encoding.md R79, on the number a word stands for: `w[23:22]` is `w / 2^22`, `w[21:20]` is
`w / 2^20 mod 4`, `w[15:0]` is `w mod 2^16`, `w[21:3]` is `w mod 2^22 / 8`. -/
def ReservedWord (w : StimulusWord) : Prop :=
  w.toNat / 2 ^ 22 = 3 ∨
  ((w.toNat / 2 ^ 22 = 0 ∨ w.toNat / 2 ^ 22 = 1) ∧ w.toNat / 2 ^ 20 % 4 ≠ 0) ∨
  (w.toNat / 2 ^ 22 = 0 ∧ w.toNat % 2 ^ 16 ≠ 0) ∨
  (w.toNat / 2 ^ 22 = 2 ∧ w.toNat % 2 ^ 22 / 8 ≠ 0)

/-! ## The fields each unit owns -/

/-- The TPD fields of two states agree (40_tpd.md R101). -/
structure SameTpd (s t : State) : Prop where
  tpdState : t.tpdState = s.tpdState
  tpdCnt : t.tpdCnt = s.tpdCnt
  tpdShreg : t.tpdShreg = s.tpdShreg
  tpdBitcnt : t.tpdBitcnt = s.tpdBitcnt
  tpdDone : t.tpdDone = s.tpdDone
  tpdResult : t.tpdResult = s.tpdResult
  tpdStage : t.tpdStage = s.tpdStage
  frameHum : t.frameHum = s.frameHum
  frameTemp : t.frameTemp = s.frameTemp
  frameRxCsum : t.frameRxCsum = s.frameRxCsum
  frameCalcCsum : t.frameCalcCsum = s.frameCalcCsum
  tempSigned : t.tempSigned = s.tempSigned

/-- The QD fields of two states agree (41_quadrature.md R146). -/
structure SameQd (s t : State) : Prop where
  qdSnap : t.qdSnap = s.qdSnap
  qdPrimed : t.qdPrimed = s.qdPrimed
  qdLastRot : t.qdLastRot = s.qdLastRot
  qdLastEdge : t.qdLastEdge = s.qdLastEdge

/-- MenuState of two states agrees (42_menu.md R160). -/
structure SameMenu (s t : State) : Prop where
  menuIndex : t.menuIndex = s.menuIndex
  menuPending : t.menuPending = s.menuPending

/-- The inputs of the cycle, the read data and the model's own fields of two states agree. -/
structure SameRest (s t : State) : Prop where
  line : t.line = s.line
  pins : t.pins = s.pins
  busRdata : t.busRdata = s.busRdata
  params : t.params = s.params
  stimulus : t.stimulus = s.stimulus
  cycle : t.cycle = s.cycle

/-- The TPD fields of `s`, all other fields of `q`. -/
def State.withTpdOf (q s : State) : State :=
  { q with
    tpdState := s.tpdState, tpdCnt := s.tpdCnt, tpdShreg := s.tpdShreg, tpdBitcnt := s.tpdBitcnt
    tpdDone := s.tpdDone, tpdResult := s.tpdResult, tpdStage := s.tpdStage, frameHum := s.frameHum
    frameTemp := s.frameTemp, frameRxCsum := s.frameRxCsum, frameCalcCsum := s.frameCalcCsum
    tempSigned := s.tempSigned }

/-! ## The parts of a cycle -/

/-- The cycle's event holds `us_tick` (R73). -/
def Cycle.hasTick (c : Cycle) : Bool := c.ev == .evUs || c.ev == .evUsQd

/-- The cycle's event holds `qd_tick`, without reset (R73). -/
def Cycle.hasSample (c : Cycle) : Bool := c.ev == .evQd || c.ev == .evUsQd

/-- The cycle's event is a reset (R73). -/
def Cycle.hasReset (c : Cycle) : Bool := isReset c.ev

/-- The host transaction is a read of MENU_CONSUME (R200, `consume`). -/
def Cycle.consumes (c : Cycle) : Bool := c.host == some .rdMenuConsume

/-- The host transaction is a write of START that the state accepts (R200, `start_acc`). -/
def Cycle.starts (c : Cycle) (s : State) : Bool :=
  match c.host with
  | some (.wrCtrl wdata) => wdata.getLsbD 0 && s.tpdState == .idle
  | _ => false

/-- The register word address a host read names (R78). -/
def Cycle.readAddr (c : Cycle) : Option RegAddr :=
  match c.host with
  | some .rdCtrl => some 0x0
  | some .rdTpdStatus => some 0x1
  | some .rdFrameHum => some 0x2
  | some .rdFrameTemp => some 0x3
  | some .rdFrameCsum => some 0x4
  | some .rdTempSigned => some 0x5
  | some .rdQdStatus => some 0x6
  | some .rdMenuState => some 0x7
  | some .rdMenuConsume => some 0x8
  | some .rdRsvd9 => some 0x9
  | some (.rdRsvdAB addr) => some addr
  | some (.rdRsvdCF addr) => some addr
  | _ => none

/-- The next state of a whole cycle as the pseudocode of R200 writes it: every part reads the pre-cycle state `s` (its
`line` and `pins` the cycle's), and the parts combine in parallel. `exec` and `runCycle` say the same by sequence
(R201). -/
def wholeCycle (c : Cycle) (s : State) : State :=
  if c.hasReset then resetState s
  else
    { ((if c.hasSample then qdSample s else s).withTpdOf
        (if c.starts s then startAttempt s else if c.hasTick then tpdTick s else s)) with
      menuPending := if c.hasSample && sampledEdge s then true else if c.consumes then false else s.menuPending
      busRdata := match c.readAddr with
        | some addr => some (readValue addr s)
        | none => s.busRdata }

/-! ## Runs of ticks, and the waveform that gives OK -/

/-- The cycle record of one tick with the line at this level: no host transaction, EV.US. -/
def tickRecord (line : Level) : CycleRecord := { host := none, ev := 0x800001, line := line, pins := 0 }

/-- The state with these tick records queued in front. -/
def State.withTicks (s : State) (levels : List Level) : State :=
  { s with stimulus := levels.map tickRecord ++ s.stimulus }

/-- One bit of a frame on the line: `low` ticks of low before the rise, the levels between the rise and the sample, the
level sampled, and `high` ticks of high before the fall (R127(iv)). -/
structure BitWave where
  low : Nat
  between : List Level
  bit : Level
  high : Nat
deriving DecidableEq, Repr

/-- The line levels of one bit, tick by tick (R127(iv)). -/
def BitWave.levels (b : BitWave) : List Level :=
  List.replicate b.low false ++ true :: b.between ++ b.bit :: List.replicate b.high true ++ [false]

/-- The bit's waits end within their budgets, and the sample lies SAMPLE_OFFSET ticks after the rise (R127(iv)). -/
def BitWave.fits (p : Params) (b : BitWave) : Prop :=
  b.low ≤ p.bitBudget.toNat ∧ b.between.length + 1 = p.sampleOffset.toNat ∧ b.high ≤ p.bitBudget.toNat

/-- The line levels of a whole attempt: those of Initiate, which are not looked at, the three acknowledgment phases, and
the bits (R127). -/
structure FrameWave where
  initiate : List Level
  ack1 : Nat
  ack2 : Nat
  ack3 : Nat
  bits : List BitWave
deriving DecidableEq, Repr

/-- The line levels of an attempt, tick by tick (R127). -/
def FrameWave.levels (w : FrameWave) : List Level :=
  w.initiate ++ List.replicate w.ack1 true ++ false :: List.replicate w.ack2 false ++ true ::
    List.replicate w.ack3 true ++ false :: w.bits.flatMap BitWave.levels

/-- The waveform keeps every budget and has 40 bits (R127(i) to (iv)). -/
def FrameWave.fits (p : Params) (w : FrameWave) : Prop :=
  w.initiate.length = p.tStartLow.toNat + p.tRelease.toNat ∧ w.ack1 ≤ p.ackBudget.toNat ∧
    w.ack2 ≤ p.ackBudget.toNat ∧ w.ack3 ≤ p.ackBudget.toNat ∧ w.bits.length = 40 ∧ ∀ b ∈ w.bits, b.fits p

/-- The number a list of bits stands for, the first bit the most significant (R116). -/
def bitsValue (bits : List Level) : Nat := bits.foldl (fun n b => 2 * n + b.toNat) 0

/-- The 40 bits of the waveform as a frame (R116). -/
def FrameWave.frame (w : FrameWave) : BitVec 40 := BitVec.ofNat 40 (bitsValue (w.bits.map BitWave.bit))

/-- The largest number of ticks an attempt takes (70_reset_and_hazards.md R250). -/
def longestAttempt (p : Params) : Nat :=
  p.tStartLow.toNat + p.tRelease.toNat + 3 * (p.ackBudget.toNat + 1)
    + 40 * (p.sampleOffset.toNat + 2 * p.bitBudget.toNat + 2)

/-! ## Presses and consumes along a run -/

/-- The state after `n` steps, where every one of them answers a next state. -/
def afterSteps (n : Nat) (s : State) : Option State :=
  match Host.Core.run Sys2Proof.core n s with
  | .next t => some t
  | .fault _ => none
  | .refused _ => none

/-- The decoded cycle the next step of `s` runs, if it runs one. -/
def State.nextCycle (s : State) : Option Cycle :=
  match fetch s.nextRecord with
  | .ok c => some c
  | .error _ => none

/-- In the next step the host consumes a pending action: a read of MENU_CONSUME with PENDING = 1, not in reset. -/
def consumesPress (s : State) : Bool :=
  match s.nextCycle with
  | some c => c.consumes && !c.hasReset && s.menuPending
  | none => false

/-- In the next step the sampler finds a button edge on the pins of that cycle. -/
def findsEdge (s : State) : Bool :=
  match s.nextCycle with
  | some c => c.hasSample && s.qdPrimed && buttonEdge s.nextRecord.pins s.qdSnap
  | none => false

/-- In the next step the sampler finds a button edge that does not merge into a pending one: the flag is clear, or the
host takes it in the same cycle (42_menu.md R167(c), (d)). -/
def findsFreshEdge (s : State) : Bool := findsEdge s && (!s.menuPending || consumesPress s)

/-- The next step is a reset. -/
def resetsNext (s : State) : Bool :=
  match s.nextCycle with
  | some c => c.hasReset
  | none => false

/-- How many of the first `n` states of the run from `s` have the property. -/
def countAlong (p : State → Bool) (n : Nat) (s : State) : Nat :=
  match n with
  | 0 => 0
  | k + 1 =>
    (p s).toNat +
      match step s with
      | .next t => countAlong p k t
      | .fault _ => 0
      | .refused _ => 0

end Sys2Proof.Machine
end

