-- ==== Sys2Proof/Certificates/Slice0/Obligations.lean ====
section
/-! DEFINITION. The statements about SWQD, each from the numbered rules of spec/. Every statement about a next state gives
it whole or with its frame; "SameTpd", "SameQd", "SameMenu" and "SameRest" (Safety.lean) say which fields stay. SWQD has no
memory (20_memory.md R50), so no frame speaks of one: the registers the host can read are those fields. -/

open Sys2Proof Sys2Proof.Machine

/-! ## Encoding -/

/-- The words of 95_test_vectors.md section 2.5 (E1 to E14) decode as R78 and R79 say. -/
def Obligations.SpecWordsDecodeAsWritten : Prop :=
  decode 0x000000 = .instr .rdCtrl ∧ decode 0x080000 = .instr .rdMenuConsume ∧
  decode 0x0B0000 = .instr (.rdRsvdAB 0xB) ∧ decode 0x0F0000 = .instr (.rdRsvdCF 0xF) ∧
  decode 0x400001 = .instr (.wrCtrl 0x0001) ∧ decode 0x40FFFE = .instr (.wrCtrl 0xFFFE) ∧
  decode 0x4F1234 = .instr (.wrIgnored8F 0xF 0x1234) ∧ decode 0x800003 = .instr .evUsQd ∧
  decode 0x800007 = .instr (.evRst 0b11) ∧ decode 0x000001 = .reserved .readDataField ∧
  decode 0x100000 = .reserved .hostZeroField ∧ decode 0x500000 = .reserved .hostZeroField ∧
  decode 0x800008 = .reserved .eventZeroField ∧ decode 0xC00000 = .reserved .kind

/-- Decoding the encoding of any well-formed instruction gives that instruction (R71 to R73, R78); the don't-care bits of
EV.RST are an operand (log 13). -/
def Obligations.DecodeOfEncodeIsTheInstruction : Prop :=
  ∀ i : Instr, i.wellFormed = true → decode (encode i) = .instr i

/-- A word that decodes to an instruction is that instruction's encoding, and the instruction is well formed: no bit of a
word is dropped (R76). -/
def Obligations.DecodedWordReencodesToItself : Prop :=
  ∀ (w : StimulusWord) (i : Instr), decode w = .instr i → i.wellFormed = true ∧ encode i = w

/-- A decoded word selects the row of its instruction and no other row of the opcode map; a RESERVED word selects none
(R76, R77, R78). -/
def Obligations.DecoderAgreesWithOpcodeMap : Prop :=
  (∀ (w : StimulusWord) (i : Instr), decode w = .instr i →
    ∀ (k : Nat) (row : OpcodeRow), opcodeRows[k]? = some row → (row.selects w = true ↔ k = i.row)) ∧
  (∀ (w : StimulusWord) (why : ReservedCase), decode w = .reserved why →
    ∀ row ∈ opcodeRows, row.selects w = false)

/-- The decoder answers RESERVED on exactly the words of R79(a) to (d). -/
def Obligations.ReservedWordsAreExactlyThoseListed : Prop :=
  ∀ w : StimulusWord, (∃ why, decode w = .reserved why) ↔ ReservedWord w

/-- A step whose record holds a RESERVED word is refused: no next state, no fault (R220). -/
def Obligations.StepRefusesReservedWords : Prop :=
  ∀ (s : State) (w : StimulusWord), ReservedWord w → (s.nextRecord.host = some w ∨ s.nextRecord.ev = w) →
    ∃ why, step s = .refused why

/-- The cycle record of any port levels decodes to the operations those ports ask for (R85). -/
def Obligations.PortLevelsAreALegalRecord : Prop :=
  ∀ p : CycleInputs, ∃ c, fetch (recordOfInputs p) = .ok c ∧
    (recordOfInputs p).line = p.line ∧ (recordOfInputs p).pins = p.pins ∧
    (p.busSel = false → c.host = none) ∧
    (p.busSel = true → p.busWe = false → c.readAddr = some p.busAddr) ∧
    (p.busSel = true → p.busWe = true →
      c.host.map encode = some (0x400000 + p.busAddr.setWidth 24 * 0x10000 + p.busWdata.setWidth 24)) ∧
    c.hasReset = p.rst ∧ (p.rst = false → c.hasTick = p.usTick ∧ c.hasSample = p.qdTick)

/-! ## The step -/

/-- A step runs the decoded instruction: on a record with one word, the step is `exec` of it on the state with the
record's input levels (R74); `withFetchWord` queues such a record. -/
def Obligations.StepRunsTheDecodedInstruction : Prop :=
  (∀ (s : State) (i : Instr), s.nextRecord.host = none → decode s.nextRecord.ev = .instr i → isEvent i = true →
    step s = exec i (beginCycle s.nextRecord.line s.nextRecord.pins s.stimulus.tail s)) ∧
  (∀ (s : State) (w : StimulusWord) (i : Instr), s.nextRecord.host = some w → s.nextRecord.ev = 0x800000 →
    decode w = .instr i → isEvent i = false →
    step s = exec i (beginCycle s.nextRecord.line s.nextRecord.pins s.stimulus.tail s)) ∧
  (∀ (s : State) (nbits : Nat) (w : StimulusWord) (i : Instr), decode w = .instr i →
    step (s.withFetchWord nbits w.toNat) = exec i (beginCycle s.line s.pins s.stimulus s))

/-- Every step is the whole cycle of R200, in which every part reads the pre-cycle state; the machine runs its parts one
after another (R201). That the cycle starts, and without a host read or a reset ends, with no read data is the model's
choice (log 6). -/
def Obligations.StepIsTheWholeCycle : Prop :=
  ∀ (s : State) (c : Cycle), fetch s.nextRecord = .ok c →
    step s = .next (wholeCycle c (beginCycle s.nextRecord.line s.nextRecord.pins s.stimulus.tail s))

/-- A step completes on every legal record and on every free draw of the inputs; no step faults (R19, R219, R252). That an
empty queue means a free draw is the model's choice (log 1), that there is no fault its reading (log 7). -/
def Obligations.StepCompletesOnEveryLegalRecord : Prop :=
  (∀ (s : State) (c : Cycle), fetch s.nextRecord = .ok c → ∃ t, step s = .next t) ∧
  (∀ s : State, s.stimulus = [] → ∃ t, step s = .next t) ∧
  (∀ (s : State) (why : Fault), step s ≠ .fault why)

/-- No step changes the parameters; each takes one record and counts one cycle (R3, R62). The queue and the cycle number are
the model's own fields (log 1), as the parameters are (log 3). -/
def Obligations.StepKeepsParametersAndTakesOneRecord : Prop :=
  ∀ s t : State, step s = .next t →
    t.params = s.params ∧ t.stimulus = s.stimulus.tail ∧ t.cycle = s.cycle + 1

/-- The read data of a cycle are computed from the pre-cycle state, whatever else happens in the cycle; a reset cycle
reads 0x0000, and a cycle with neither has no read data (R180, R244; the last clause is the model's choice of log 6). -/
def Obligations.ReadDataIsOfThePreCycleState : Prop :=
  ∀ (s : State) (c : Cycle), fetch s.nextRecord = .ok c → ∃ t, step s = .next t ∧
    (c.hasReset = true → t.busRdata = some 0) ∧
    (c.hasReset = false → c.readAddr = none → t.busRdata = none) ∧
    (c.hasReset = false → ∀ a, c.readAddr = some a → t.busRdata = some (readValue a s))

/-- Reset wins over everything else in the cycle: whatever the state and the host transaction, the next state holds the
values of R49 and `bus_rdata` is 0x0000 (R230). -/
def Obligations.ResetWinsOverTheWholeCycle : Prop :=
  ∀ (s : State) (c : Cycle), fetch s.nextRecord = .ok c → c.hasReset = true →
    step s = .next
      { tpdState := .idle, tpdCnt := 0, tpdShreg := 0, tpdBitcnt := 0, tpdDone := false, tpdResult := .none
        tpdStage := .none, frameHum := 0, frameTemp := 0, frameRxCsum := 0, frameCalcCsum := 0, tempSigned := 0
        qdSnap := 0, qdPrimed := false, qdLastRot := .zero, qdLastEdge := false, menuIndex := 0, menuPending := false
        line := false, pins := 0, busRdata := some 0, params := s.params, stimulus := s.stimulus.tail
        cycle := s.cycle + 1 }

/-- The three collisions of R200: (a) an edge and a consume, (b) an accepted START and a tick, (c) a START while busy. -/
def Obligations.CollisionsResolveAsTheSpecSays : Prop :=
  (∀ (s : State) (c : Cycle), fetch s.nextRecord = .ok c → c.host = some .rdMenuConsume → c.hasSample = true →
    s.qdPrimed = true → s.qdSnap.getLsbD 2 = false → s.nextRecord.pins.getLsbD 2 = true →
    ∃ t v, step s = .next t ∧ t.menuPending = true ∧ t.busRdata = some v ∧
      v.toNat = s.menuPending.toNat * 256 + s.menuIndex.toNat) ∧
  (∀ (s : State) (c : Cycle) (v : RegWord), fetch s.nextRecord = .ok c → c.host = some (.wrCtrl v) →
    v.getLsbD 0 = true → s.tpdState = .idle → c.hasReset = false →
    ∃ t, step s = .next t ∧ SameTpd (startAttempt s) t) ∧
  (∀ (s : State) (c : Cycle) (v : RegWord), fetch s.nextRecord = .ok c → c.host = some (.wrCtrl v) →
    s.tpdState ≠ .idle → c.hasReset = false →
    ∃ t u, step s = .next t ∧
      exec (if c.hasTick then .evUs else .evNop)
        (beginCycle s.nextRecord.line s.nextRecord.pins s.stimulus.tail s) = .next u ∧ SameTpd u t)

/-! ## Host reads and writes -/

/-- The reads of one whole field, and of CTRL and the reserved addresses, complete in every state, return it and change
nothing else (R182, R184, R185, R187, R191). -/
def Obligations.PlainReadsReturnTheirField : Prop :=
  ∀ s : State,
    exec .rdCtrl s = .next { s with busRdata := some 0x0000 } ∧
    exec .rdFrameHum s = .next { s with busRdata := some s.frameHum } ∧
    exec .rdFrameTemp s = .next { s with busRdata := some s.frameTemp } ∧
    exec .rdTempSigned s = .next { s with busRdata := some s.tempSigned } ∧
    exec .rdRsvd9 s = .next { s with busRdata := some 0x0000 } ∧
    (∀ a : RegAddr, 0xA ≤ a.toNat ∧ a.toNat ≤ 0xB → exec (.rdRsvdAB a) s = .next { s with busRdata := some 0x0000 }) ∧
    (∀ a : RegAddr, 0xC ≤ a.toNat ∧ a.toNat ≤ 0xF → exec (.rdRsvdCF a) s = .next { s with busRdata := some 0x0000 })

/-- Reserved addresses read 0x0000 and change no state, writes to them change no state, and neither raises an error
(R52). -/
def Obligations.ReservedAddressesReadZeroIgnoreWrites : Prop :=
  ∀ (a : RegAddr) (s : State), 0x9 ≤ a.toNat →
    exec (decodeRead a) s = .next { s with busRdata := some 0x0000 } ∧
    ∀ v : RegWord, exec (decodeWrite a v) s = .next s

/-- The packed registers, read as numbers: each field stands at its bits of R42, R45, R47 and R48, with the codes of R35,
R36 and R39, and the read changes nothing else (R183, R186, R188, R189). -/
def Obligations.PackedReadsPlaceTheirFields : Prop :=
  (∀ s : State, ∃ v, exec .rdTpdStatus s = .next { s with busRdata := some v } ∧
    v.toNat = s.tpdBitcnt.toNat * 256 + s.tpdStage.code.toNat * 32 + s.tpdResult.code.toNat * 4
      + s.tpdDone.toNat * 2 + (if s.tpdState = .idle then 0 else 1)) ∧
  (∀ s : State, ∃ v, exec .rdFrameCsum s = .next { s with busRdata := some v } ∧
    v.toNat = s.frameCalcCsum.toNat * 256 + s.frameRxCsum.toNat) ∧
  (∀ s : State, ∃ v, exec .rdQdStatus s = .next { s with busRdata := some v } ∧
    v.toNat = s.qdLastEdge.toNat * 128 + s.qdLastRot.code.toNat * 32 + s.qdPrimed.toNat * 16 + s.qdSnap.toNat) ∧
  (∀ s : State, ∃ v, exec .rdMenuState s = .next { s with busRdata := some v } ∧
    v.toNat = s.menuPending.toNat * 256 + s.menuIndex.toNat) ∧
  (TpdResult.none.code = 0 ∧ TpdResult.ok.code = 1 ∧ TpdResult.ackTimeout.code = 2 ∧ TpdResult.bitTimeout.code = 3 ∧
    TpdResult.checksumMismatch.code = 4) ∧
  (TpdStage.none.code = 0 ∧ TpdStage.ack1.code = 1 ∧ TpdStage.ack2.code = 2 ∧ TpdStage.ack3.code = 3 ∧
    TpdStage.bitRise.code = 4 ∧ TpdStage.bitFall.code = 5) ∧
  (Rotation.zero.code = 0b00 ∧ Rotation.plus.code = 0b01 ∧ Rotation.minus.code = 0b11)

/-- BUSY reads as TPD_STATUS[0], and is 1 exactly when `tpd_state` is not IDLE (R27). -/
def Obligations.BusyReadsAsStatusBitZero : Prop :=
  ∀ s : State, ∃ v, exec .rdTpdStatus s = .next { s with busRdata := some v } ∧
    (v.getLsbD 0 = true ↔ s.tpdState ≠ .idle) ∧ (s.busy = true ↔ s.tpdState ≠ .idle)

/-- A read of MENU_CONSUME completes in every state: it returns PENDING and INDEX of one instant and clears the flag, so
that a second read returns PENDING = 0 (R190, R163). -/
def Obligations.ConsumeReturnsTheFlagAndClearsIt : Prop :=
  ∀ s : State, ∃ v, exec .rdMenuConsume s = .next { s with menuPending := false, busRdata := some v } ∧
    v.toNat = s.menuPending.toNat * 256 + s.menuIndex.toNat ∧
    ∃ u, exec .rdMenuConsume { s with menuPending := false, busRdata := some v } =
        .next { s with menuPending := false, busRdata := some u } ∧ u.toNat = s.menuIndex.toNat

/-- A write to any address but CTRL completes and changes no state (R192, R53). -/
def Obligations.IgnoredWritesChangeNothing : Prop :=
  ∀ (s : State) (v : RegWord),
    exec (.wrIgnored1 v) s = .next s ∧
    (∀ a : RegAddr, 0x2 ≤ a.toNat ∧ a.toNat ≤ 0x3 → exec (.wrIgnored23 a v) s = .next s) ∧
    (∀ a : RegAddr, 0x4 ≤ a.toNat ∧ a.toNat ≤ 0x7 → exec (.wrIgnored47 a v) s = .next s) ∧
    (∀ a : RegAddr, 0x8 ≤ a.toNat ∧ a.toNat ≤ 0xF → exec (.wrIgnored8F a v) s = .next s)

/-- A write to CTRL with bit 0 set while the TPD is idle begins an attempt with every result field cleared; every other
write to CTRL changes nothing; bits 15:1 are ignored (R100, R181). -/
def Obligations.StartBeginsAFreshAttempt : Prop :=
  ∀ (s : State) (v : RegWord),
    (v.getLsbD 0 = true → s.tpdState = .idle → exec (.wrCtrl v) s = .next
      { s with
        tpdState := .startLow, tpdCnt := 0, tpdShreg := 0, tpdBitcnt := 0, tpdDone := false, tpdResult := .none
        tpdStage := .none, frameHum := 0, frameTemp := 0, frameRxCsum := 0, frameCalcCsum := 0, tempSigned := 0 }) ∧
    ((v.getLsbD 0 = false ∨ s.tpdState ≠ .idle) → exec (.wrCtrl v) s = .next s)

/-- A read without side effect, repeated, returns the same value (R57). -/
def Obligations.SideEffectFreeReadsRepeat : Prop :=
  ∀ (a : RegAddr) (s : State), a ≠ 0x8 → ∃ t v, exec (decodeRead a) s = .next t ∧ t.busRdata = some v ∧
    ∃ u, exec (decodeRead a) t = .next u ∧ u.busRdata = some v ∧ u = t

/-! ## Events -/

/-- EV.NOP completes in every state and changes nothing; a cycle with no operation at all changes nothing but the inputs of
the cycle (R193). That such a cycle has no read data is the model's choice (log 6). -/
def Obligations.EmptyCycleChangesNothing : Prop :=
  (∀ s : State, exec .evNop s = .next s) ∧
  (∀ s : State, s.nextRecord.host = none → s.nextRecord.ev = 0x800000 →
    ∃ t, step s = .next t ∧ SameTpd s t ∧ SameQd s t ∧ SameMenu s t ∧ t.busRdata = none)

/-- EV.RST completes in every state, with the values of R49 in every field, whatever the don't-care bits (R230, R73); the
model's own fields stay (log 1, log 3). -/
def Obligations.ResetEventLeavesResetValues : Prop :=
  ∀ (s : State) (d : BitVec 2), exec (.evRst d) s = .next
    { tpdState := .idle, tpdCnt := 0, tpdShreg := 0, tpdBitcnt := 0, tpdDone := false, tpdResult := .none
      tpdStage := .none, frameHum := 0, frameTemp := 0, frameRxCsum := 0, frameCalcCsum := 0, tempSigned := 0
      qdSnap := 0, qdPrimed := false, qdLastRot := .zero, qdLastEdge := false, menuIndex := 0, menuPending := false
      line := false, pins := 0, busRdata := some 0, params := s.params, stimulus := s.stimulus, cycle := s.cycle }

/-- The state the machine starts from holds the reset values of R49, with the stated parameters of R6, R7 and R13; nothing
queued and cycle 0 are the model's choice (log 1), `bus_rdata` is that of a reset cycle (R200, log 6). -/
def Obligations.MachineStartsInTheResetState : Prop :=
  (∃ d, exec (.evRst d) State.reset = .next State.reset) ∧ State.reset.tpdState = .idle ∧
  State.reset.menuIndex = 0 ∧ State.reset.menuPending = false ∧ State.reset.qdPrimed = false ∧
  State.reset.params.tStartLow = 3000 ∧ State.reset.params.tRelease = 30 ∧ State.reset.params.max = 2 ∧
  State.reset.params.legal ∧ State.reset.busRdata = some 0 ∧ State.reset.stimulus = [] ∧ State.reset.cycle = 0

/-- A tick in IDLE changes nothing, the line is not driven, and the line is not read (R103). -/
def Obligations.TickInIdleChangesNothing : Prop :=
  ∀ s : State, s.tpdState = .idle → s.dqDriveLow = false ∧
    ∀ level : Level, exec .evUs { s with line := level } = .next { s with line := level }

/-- One tick of START_LOW and of RELEASE: the last one moves on with the count at 0, any other counts (R104, R105, R111). -/
def Obligations.HoldTicksCountThenMoveOn : Prop :=
  ∀ s : State,
    (s.tpdState = .startLow → exec .evUs s = .next
      (if s.tpdCnt.toNat + 1 = s.params.tStartLow.toNat then { s with tpdState := .release, tpdCnt := 0 }
       else { s with tpdCnt := s.tpdCnt + 1 })) ∧
    (s.tpdState = .release → exec .evUs s = .next
      (if s.tpdCnt.toNat + 1 = s.params.tRelease.toNat then { s with tpdState := .ack1, tpdCnt := 0 }
       else { s with tpdCnt := s.tpdCnt + 1 }))

/-- One tick of each acknowledgment wait: success, timeout with ACK_TIMEOUT and the wait's stage, or one more count;
success wins on the last look (R106, R107, R108, R110, R122). -/
def Obligations.AcknowledgmentTicksSucceedTimeOutOrCount : Prop :=
  ∀ s : State,
    (s.tpdState = .ack1 → exec .evUs s = .next
      (if s.line = false then { s with tpdState := .ack2, tpdCnt := 0 }
       else if s.tpdCnt = s.params.ackBudget then
        { s with tpdState := .idle, tpdCnt := 0, tpdDone := true, tpdResult := .ackTimeout, tpdStage := .ack1 }
       else { s with tpdCnt := s.tpdCnt + 1 })) ∧
    (s.tpdState = .ack2 → exec .evUs s = .next
      (if s.line = true then { s with tpdState := .ack3, tpdCnt := 0 }
       else if s.tpdCnt = s.params.ackBudget then
        { s with tpdState := .idle, tpdCnt := 0, tpdDone := true, tpdResult := .ackTimeout, tpdStage := .ack2 }
       else { s with tpdCnt := s.tpdCnt + 1 })) ∧
    (s.tpdState = .ack3 → exec .evUs s = .next
      (if s.line = false then { s with tpdState := .bitRise, tpdCnt := 0 }
       else if s.tpdCnt = s.params.ackBudget then
        { s with tpdState := .idle, tpdCnt := 0, tpdDone := true, tpdResult := .ackTimeout, tpdStage := .ack3 }
       else { s with tpdCnt := s.tpdCnt + 1 }))

/-- One tick of the rise wait, and of the fall wait but for its success after the 40th bit: success, BIT_TIMEOUT with the
wait's stage, or one more count (R110, R112, R115, R122). -/
def Obligations.BitWaitTicksSucceedTimeOutOrCount : Prop :=
  ∀ s : State,
    (s.tpdState = .bitRise → exec .evUs s = .next
      (if s.line = true then { s with tpdState := .bitDelay, tpdCnt := 0 }
       else if s.tpdCnt = s.params.bitBudget then
        { s with tpdState := .idle, tpdCnt := 0, tpdDone := true, tpdResult := .bitTimeout, tpdStage := .bitRise }
       else { s with tpdCnt := s.tpdCnt + 1 })) ∧
    (s.tpdState = .bitFall → (s.line = true ∨ s.tpdBitcnt ≠ 40) → exec .evUs s = .next
      (if s.line = false then { s with tpdState := .bitRise, tpdCnt := 0 }
       else if s.tpdCnt = s.params.bitBudget then
        { s with tpdState := .idle, tpdCnt := 0, tpdDone := true, tpdResult := .bitTimeout, tpdStage := .bitFall }
       else { s with tpdCnt := s.tpdCnt + 1 }))

/-- One tick of BIT_DELAY: on the SAMPLE_OFFSET-th tick the line level is shifted in at bit 0 and counted, before it only
the tick is counted (R113, R114). -/
def Obligations.DelayTicksSampleOnTheLast : Prop :=
  ∀ s : State, s.tpdState = .bitDelay →
    (s.tpdCnt.toNat + 1 ≠ s.params.sampleOffset.toNat → exec .evUs s = .next { s with tpdCnt := s.tpdCnt + 1 }) ∧
    (s.tpdCnt.toNat + 1 = s.params.sampleOffset.toNat → ∃ sh, exec .evUs s = .next
        { s with tpdState := .bitFall, tpdCnt := 0, tpdShreg := sh, tpdBitcnt := s.tpdBitcnt + 1 } ∧
      sh.toNat = (2 * s.tpdShreg.toNat + s.line.toNat) % 2 ^ 40)

/-- The tick that ends an attempt whose 40 bits are the bytes b0 to b4: the raw bytes and both checksums in every case, OK
and the temperature when the checksum matches, else CHECKSUM_MISMATCH with `temp_signed` as it was (R116 to R122). -/
def Obligations.FinishTickValidatesAndDecodes : Prop :=
  ∀ (s : State) (b0 b1 b2 b3 b4 : Byte), s.tpdState = .bitFall → s.tpdBitcnt = 40 → s.line = false →
    s.tpdShreg.toNat = (((b0.toNat * 256 + b1.toNat) * 256 + b2.toNat) * 256 + b3.toNat) * 256 + b4.toNat →
    ∃ t, exec .evUs s = .next t ∧ SameQd s t ∧ SameMenu s t ∧ SameRest s t ∧
      t.tpdState = .idle ∧ t.tpdCnt = 0 ∧ t.tpdShreg = s.tpdShreg ∧ t.tpdBitcnt = s.tpdBitcnt ∧ t.tpdDone = true ∧
      t.tpdStage = .none ∧ t.frameHum.toNat = b0.toNat * 256 + b1.toNat ∧
      t.frameTemp.toNat = b2.toNat * 256 + b3.toNat ∧ t.frameRxCsum = b4 ∧
      t.frameCalcCsum.toNat = (b0.toNat + b1.toNat + b2.toNat + b3.toNat) % 256 ∧
      (if (b0.toNat + b1.toNat + b2.toNat + b3.toNat) % 256 = b4.toNat then
        t.tpdResult = .ok ∧ t.tempSigned.toInt =
          (if b2.toNat < 128 then (b2.toNat * 256 + b3.toNat : Int)
           else -((b2.toNat - 128) * 256 + b3.toNat : Int))
       else t.tpdResult = .checksumMismatch ∧ t.tempSigned = s.tempSigned)

/-- Rotation is +1 exactly when phaseA rises with phaseB high, -1 exactly when it rises with phaseB low, else 0; the other
bits of the two snapshots do not matter (R142). -/
def Obligations.RotationFollowsPhaseARise : Prop :=
  ∀ cur prev : Snapshot,
    (rotationOf cur prev = .plus ↔ prev.toNat % 2 = 0 ∧ cur.toNat % 2 = 1 ∧ cur.toNat / 2 % 2 = 1) ∧
    (rotationOf cur prev = .minus ↔ prev.toNat % 2 = 0 ∧ cur.toNat % 2 = 1 ∧ cur.toNat / 2 % 2 = 0) ∧
    (rotationOf cur prev = .zero ↔ ¬ (prev.toNat % 2 = 0 ∧ cur.toNat % 2 = 1))

/-- One sample completes in every state: the snapshot is stored, the first sample after reset makes no event, every later
one finds the rotation and the button edge of the two snapshots, and the index is clamped with no wraparound (R142, R144,
R145, R146, R161, R162). The premise is the index's range, which R28 gives in every reachable state. -/
def Obligations.SampleFindsEventsAndUpdatesMenu : Prop :=
  ∀ s : State, s.menuIndex.toNat ≤ s.params.max.toNat →
    ∃ t, exec .evQd s = .next t ∧ SameTpd s t ∧ SameRest s t ∧ t.qdSnap = s.pins ∧ t.qdPrimed = true ∧
      (s.qdPrimed = false →
        t.qdLastRot = .zero ∧ t.qdLastEdge = false ∧ t.menuIndex = s.menuIndex ∧ t.menuPending = s.menuPending) ∧
      (s.qdPrimed = true →
        (if s.qdSnap.getLsbD 0 = false ∧ s.pins.getLsbD 0 = true then
          if s.pins.getLsbD 1 = true then
            t.qdLastRot = .plus ∧ t.menuIndex.toNat = min (s.menuIndex.toNat + 1) s.params.max.toNat
          else t.qdLastRot = .minus ∧ t.menuIndex.toNat = s.menuIndex.toNat - 1
         else t.qdLastRot = .zero ∧ t.menuIndex = s.menuIndex) ∧
        (if s.qdSnap.getLsbD 2 = false ∧ s.pins.getLsbD 2 = true then t.qdLastEdge = true ∧ t.menuPending = true
         else t.qdLastEdge = false ∧ t.menuPending = s.menuPending))

/-- EV.US_QD completes in every state with the result of the tick and the sample done in either order (R194). -/
def Obligations.TickAndSampleCommute : Prop :=
  ∀ s : State, ∃ a b t, exec .evUs s = .next a ∧ exec .evQd s = .next b ∧ exec .evUsQd s = .next t ∧
    exec .evQd a = .next t ∧ exec .evUs b = .next t

/-- EV.US completes in every state and leaves the QD, MENU, the inputs and the parameters alone (R102, R126). -/
def Obligations.TickCompletesAndTouchesOnlyTpd : Prop :=
  ∀ s : State, ∃ t, exec .evUs s = .next t ∧ SameQd s t ∧ SameMenu s t ∧ SameRest s t

/-! ## What only some operations change -/

/-- The TPD fields change only by an accepted START, a tick or a reset (R101). -/
def Obligations.TpdChangesInExactlyThreeWays : Prop :=
  ∀ (s t : State) (c : Cycle), fetch s.nextRecord = .ok c → step s = .next t →
    c.starts s = false → c.hasTick = false → c.hasReset = false → SameTpd s t

/-- Without reset, the index changes only in a sample, the flag is set only by a sample's button edge and cleared only by a
read of MENU_CONSUME, and the QD fields change only in a sample (R40, R165). -/
def Obligations.MenuChangesOnlyByItsOperations : Prop :=
  ∀ (s t : State) (c : Cycle), fetch s.nextRecord = .ok c → step s = .next t → c.hasReset = false →
    (c.hasSample = false → t.menuIndex = s.menuIndex ∧ SameQd s t) ∧
    (s.menuPending = false → t.menuPending = true → c.hasSample = true ∧ t.qdLastEdge = true) ∧
    (s.menuPending = true → t.menuPending = false → c.host = some .rdMenuConsume)

/-- An attempt begins only by an accepted START: there is no automatic retry. It ends only by a tick or a reset, and by a
tick only with DONE and an outcome (R123, R125, R181). -/
def Obligations.AttemptsBeginByStartAndEndByTick : Prop :=
  ∀ (s t : State) (c : Cycle), fetch s.nextRecord = .ok c → step s = .next t →
    (s.busy = false → t.busy = true → c.starts s = true) ∧
    (s.busy = true → t.busy = false → c.hasReset = true ∨ (c.hasTick = true ∧ t.tpdDone = true ∧ t.tpdResult ≠ .none))

/-- The TPD neither reads nor writes the QD or MENU fields, and the sample neither reads nor writes the TPD fields (R126). -/
def Obligations.TpdAndSamplerAreIndependent : Prop :=
  (∀ s q t : State, q.line = s.line → q.params = s.params → exec .evUs s = .next t →
    exec .evUs (q.withTpdOf s) = .next (q.withTpdOf t)) ∧
  (∀ s q t : State, exec .evQd s = .next t → exec .evQd (s.withTpdOf q) = .next (t.withTpdOf q))

/-- In IDLE, START_LOW and RELEASE, and in BIT_DELAY before its last tick, a tick does not look at the line (R103, R104,
R105, R109, R113). -/
def Obligations.TickReadsLineOnlyWhereListed : Prop :=
  ∀ (s t : State) (level : Level),
    (s.tpdState = .idle ∨ s.tpdState = .startLow ∨ s.tpdState = .release ∨
      (s.tpdState = .bitDelay ∧ s.tpdCnt.toNat + 1 ≠ s.params.sampleOffset.toNat)) →
    exec .evUs s = .next t → exec .evUs { s with line := level } = .next { t with line := level }

/-! ## Invariants -/

/-- The reset state meets the invariant (R49; the parameters are legal by R6 to R13). -/
def Obligations.ResetStateMeetsInvariant : Prop := State.reset.Inv

/-- Every step from a state that meets the invariant ends in one that does (R28, R31, R33, R35 to R39, R123, R211 to R214). -/
def Obligations.EveryStepKeepsInvariant : Prop :=
  ∀ s t : State, s.Inv → step s = .next t → t.Inv

/-- In every state reachable from reset, under any legal parameters and any cycle records, the index is at most MAX (R28). -/
def Obligations.IndexStaysInRangeFromReset : Prop :=
  ∀ (p : Params) (records : List CycleRecord) (n : Nat) (t : State), p.legal →
    afterSteps n { State.reset with params := p, stimulus := records } = some t →
    0 ≤ t.menuIndex.toNat ∧ t.menuIndex.toNat ≤ t.params.max.toNat

/-- After a timeout, and while an attempt is in progress, every result register reads 0x0000; after CHECKSUM_MISMATCH
TEMP_SIGNED does (R123, R240). -/
def Obligations.NoPartialDataIsExposed : Prop :=
  ∀ s : State, s.Inv →
    (s.busy = true ∨ s.tpdResult = .ackTimeout ∨ s.tpdResult = .bitTimeout →
      ∀ i ∈ [Instr.rdFrameHum, .rdFrameTemp, .rdFrameCsum, .rdTempSigned],
        exec i s = .next { s with busRdata := some 0x0000 }) ∧
    (s.tpdResult = .checksumMismatch → exec .rdTempSigned s = .next { s with busRdata := some 0x0000 })

/-! ## Runs of ticks -/

/-- The line is driven low exactly in START_LOW, in every state (R23); START_LOW and RELEASE last exactly their ticks, the line
driven in every cycle of the first and in none of the second (R104, R105, R111). -/
def Obligations.HoldsLastExactlyTheirTicks : Prop :=
  (∀ s : State, s.dqDriveLow = true ↔ s.tpdState = .startLow) ∧
  ∀ (s : State) (levels : List Level), s.params.legal → s.tpdCnt = 0 →
    (s.tpdState = .startLow → levels.length = s.params.tStartLow.toNat →
      (∀ k, k < levels.length → ∃ t, afterSteps k (s.withTicks levels) = some t ∧ t.tpdState = .startLow ∧
        t.dqDriveLow = true) ∧
      ∃ t, afterSteps levels.length (s.withTicks levels) = some t ∧ t.tpdState = .release ∧ t.tpdCnt = 0 ∧
        t.dqDriveLow = false) ∧
    (s.tpdState = .release → levels.length = s.params.tRelease.toNat →
      (∀ k, k < levels.length → ∃ t, afterSteps k (s.withTicks levels) = some t ∧ t.tpdState = .release ∧
        t.dqDriveLow = false) ∧
      ∃ t, afterSteps levels.length (s.withTicks levels) = some t ∧ t.tpdState = .ack1 ∧ t.tpdCnt = 0)

/-- With the line high from the release on, an attempt takes exactly T_START_LOW + T_RELEASE + ACK_BUDGET + 1 ticks and ends
with ACK_TIMEOUT at ACK1, no bit counted and no data (R212, R250). -/
def Obligations.UnansweredAttemptTimesOutOnTime : Prop :=
  ∀ (s : State) (initiate : List Level), s.params.legal →
    initiate.length = s.params.tStartLow.toNat + s.params.tRelease.toNat →
    (∀ k, k < initiate.length + (s.params.ackBudget.toNat + 1) →
      ∃ t, afterSteps k ((startAttempt s).withTicks (initiate ++ List.replicate (s.params.ackBudget.toNat + 1) true))
        = some t ∧ t.busy = true ∧ t.tpdDone = false) ∧
    ∃ t, afterSteps (initiate.length + (s.params.ackBudget.toNat + 1))
        ((startAttempt s).withTicks (initiate ++ List.replicate (s.params.ackBudget.toNat + 1) true)) = some t ∧
      t.busy = false ∧ t.tpdDone = true ∧ t.tpdResult = .ackTimeout ∧ t.tpdStage = .ack1 ∧ t.tpdBitcnt = 0 ∧
      t.frameHum = 0 ∧ t.frameTemp = 0 ∧ t.frameRxCsum = 0 ∧ t.frameCalcCsum = 0 ∧ t.tempSigned = 0

/-- Every attempt ends: from any state in the middle of one, with any line levels, within the largest number of ticks of
R250 the TPD is idle again with an outcome (R123, R250). -/
def Obligations.EveryAttemptEndsInTime : Prop :=
  ∀ (s : State) (levels : List Level), s.Inv → s.busy = true → levels.length = longestAttempt s.params →
    ∃ k t, k ≤ levels.length ∧ afterSteps k (s.withTicks levels) = some t ∧ t.busy = false ∧ t.tpdDone = true ∧
      t.tpdResult ≠ .none

/-- A waveform within the budgets is received: the attempt it answers ends on its last tick, not before, with the bits the
line had at the sampling instants, and with OK exactly when their checksum matches (R127). -/
def Obligations.TimelyWaveformIsReceived : Prop :=
  ∀ (s : State) (w : FrameWave), s.params.legal → w.fits s.params →
    (∀ k, k < w.levels.length → ∃ t, afterSteps k ((startAttempt s).withTicks w.levels) = some t ∧ t.busy = true) ∧
    ∃ t, afterSteps w.levels.length ((startAttempt s).withTicks w.levels) = some t ∧ t.busy = false ∧
      t.tpdDone = true ∧ t.tpdBitcnt = 40 ∧ t.tpdShreg = w.frame ∧
      t.tpdResult = (if frameValid w.frame then .ok else .checksumMismatch) ∧ t.tpdStage = .none ∧
      t.frameHum = humidityRaw w.frame ∧ t.frameTemp = temperatureRaw w.frame ∧ t.frameRxCsum = frameByte4 w.frame

/-- Only such a waveform gives OK: an attempt that is busy before each of the ticks and ends OK on the last of them saw the
acknowledgment and 40 bits within the budgets, with a matching checksum (R127). The premises on the parameters hold for
every legal value (R6, R7, R10). -/
def Obligations.OkOnlyByATimelyWaveform : Prop :=
  ∀ (s t : State) (levels : List Level), 1 ≤ s.params.tStartLow.toNat → 1 ≤ s.params.tRelease.toNat →
    1 ≤ s.params.sampleOffset.toNat →
    countAlong (fun u => !u.busy) levels.length ((startAttempt s).withTicks levels) = 0 →
    afterSteps levels.length ((startAttempt s).withTicks levels) = some t → t.tpdResult = .ok →
    ∃ w : FrameWave, w.fits s.params ∧ w.levels = levels ∧ frameValid w.frame = true

/-! ## Presses, consumes, corruption -/

/-- Along every run without reset no press is lost or invented: the flag at the start and the fresh button edges found
together equal the flag at the end and the presses consumed (R167(b) to (d), R200(a)). -/
def Obligations.PressesAreConsumedExactlyOnce : Prop :=
  ∀ (n : Nat) (s t : State), afterSteps n s = some t → countAlong resetsNext n s = 0 →
    s.menuPending.toNat + countAlong findsFreshEdge n s = t.menuPending.toNat + countAlong consumesPress n s

/-- Any corruption of a single byte of a frame that would end OK ends as CHECKSUM_MISMATCH instead (R117, and the document's
round-trip property in 95_test_vectors.md section 1.5). -/
def Obligations.SingleByteCorruptionIsDetected : Prop :=
  ∀ (s t : State) (k : Nat) (m : Byte), s.tpdState = .bitFall → s.tpdBitcnt = 40 → s.line = false →
    exec .evUs s = .next t → t.tpdResult = .ok → k < 5 → m ≠ 0 →
    ∃ u, exec .evUs { s with tpdShreg := s.tpdShreg ^^^ (m.setWidth 40 <<< (8 * k)) } = .next u ∧
      u.tpdResult = .checksumMismatch
end

