-- ==== Sys2Proof/Laws/Decode.lean ====
section
/-! SUPPORT. The fields of the three word formats (spec/30_encoding.md R71 to R73) read back from the words the encoder
builds, a word rebuilt from its fields, and the cases of the decoder. -/

namespace Sys2Proof

/-! ## The fields of each format -/

@[simp] theorem kindOf_hrWord (a : RegAddr) : kindOf (hrWord a) = 0 := by revert a; decide

@[simp] theorem hostZeroOf_hrWord (a : RegAddr) : hostZeroOf (hrWord a) = 0 := by revert a; decide

@[simp] theorem addrOf_hrWord (a : RegAddr) : addrOf (hrWord a) = a := by revert a; decide

@[simp] theorem wdataOf_hrWord (a : RegAddr) : wdataOf (hrWord a) = 0 := by revert a; decide

@[simp] theorem kindOf_hwWord (a : RegAddr) (v : RegWord) : kindOf (hwWord a v) = 1 := by
  ext i hi
  simp only [kindOf, hwWord, BitVec.getElem_extractLsb', BitVec.getLsbD_append]
  interval_cases i <;> simp

@[simp] theorem hostZeroOf_hwWord (a : RegAddr) (v : RegWord) : hostZeroOf (hwWord a v) = 0 := by
  ext i hi
  simp only [hostZeroOf, hwWord, BitVec.getElem_extractLsb', BitVec.getLsbD_append]
  interval_cases i <;> simp

@[simp] theorem addrOf_hwWord (a : RegAddr) (v : RegWord) : addrOf (hwWord a v) = a := by
  ext i hi
  simp only [addrOf, hwWord, BitVec.getElem_extractLsb', BitVec.getLsbD_append]
  interval_cases i <;> simp

@[simp] theorem wdataOf_hwWord (a : RegAddr) (v : RegWord) : wdataOf (hwWord a v) = v := by
  ext i hi
  simp only [wdataOf, hwWord, BitVec.getElem_extractLsb', BitVec.getLsbD_append]
  interval_cases i <;> simp

@[simp] theorem kindOf_evWord (b : BitVec 3) : kindOf (evWord b) = 2 := by revert b; decide

@[simp] theorem eventZeroOf_evWord (b : BitVec 3) : eventZeroOf (evWord b) = 0 := by revert b; decide

@[simp] theorem eventBitsOf_evWord (b : BitVec 3) : eventBitsOf (evWord b) = b := by revert b; decide

/-! ## A word from its fields -/

theorem hostFields_append (w : StimulusWord) :
    (kindOf w ++ hostZeroOf w ++ addrOf w ++ wdataOf w : BitVec (2 + 2 + 4 + 16)) = w := by
  apply BitVec.eq_of_getLsbD_eq
  intro i hi
  simp only [kindOf, hostZeroOf, addrOf, wdataOf, BitVec.getLsbD_append, BitVec.getLsbD_extractLsb']
  interval_cases i <;> simp

theorem eventFields_append (w : StimulusWord) :
    (kindOf w ++ eventZeroOf w ++ eventBitsOf w : BitVec (2 + 19 + 3)) = w := by
  apply BitVec.eq_of_getLsbD_eq
  intro i hi
  simp only [kindOf, eventZeroOf, eventBitsOf, BitVec.getLsbD_append, BitVec.getLsbD_extractLsb']
  interval_cases i <;> simp

theorem hrWord_of_fields {w : StimulusWord} (hk : kindOf w = 0) (hz : hostZeroOf w = 0) (hd : wdataOf w = 0) :
    hrWord (addrOf w) = w := by
  have h := hostFields_append w
  rw [hk, hz, hd] at h
  exact h

theorem hwWord_of_fields {w : StimulusWord} (hk : kindOf w = 1) (hz : hostZeroOf w = 0) :
    hwWord (addrOf w) (wdataOf w) = w := by
  have h := hostFields_append w
  rw [hk, hz] at h
  exact h

theorem evWord_of_fields {w : StimulusWord} (hk : kindOf w = 2) (hz : eventZeroOf w = 0) :
    evWord (eventBitsOf w) = w := by
  have h := eventFields_append w
  rw [hk, hz] at h
  exact h

/-! ## The decoder -/

/-- Everything the decoder can answer: an instruction of one of the three formats, or RESERVED by R79. -/
theorem decode_cases (w : StimulusWord) :
    (kindOf w = 0 ∧ hostZeroOf w = 0 ∧ wdataOf w = 0 ∧ decode w = .instr (decodeRead (addrOf w))) ∨
    (kindOf w = 1 ∧ hostZeroOf w = 0 ∧ decode w = .instr (decodeWrite (addrOf w) (wdataOf w))) ∨
    (kindOf w = 2 ∧ eventZeroOf w = 0 ∧ decode w = .instr (decodeEvent (eventBitsOf w))) ∨
    (kindOf w = 3 ∧ decode w = .reserved .kind) ∨
    ((kindOf w = 0 ∨ kindOf w = 1) ∧ hostZeroOf w ≠ 0 ∧ decode w = .reserved .hostZeroField) ∨
    (kindOf w = 0 ∧ wdataOf w ≠ 0 ∧ hostZeroOf w = 0 ∧ decode w = .reserved .readDataField) ∨
    (kindOf w = 2 ∧ eventZeroOf w ≠ 0 ∧ decode w = .reserved .eventZeroField) := by
  have kinds : ∀ k : BitVec 2, k = 0 ∨ k = 1 ∨ k = 2 ∨ k = 3 := by decide
  unfold decode
  rcases kinds (kindOf w) with hk | hk | hk | hk <;> rw [hk]
  · by_cases hz : hostZeroOf w = 0#2 <;> by_cases hd : wdataOf w = 0#16 <;> simp [hz, hd]
  · by_cases hz : hostZeroOf w = 0#2 <;> simp [hz]
  · by_cases hz : eventZeroOf w = 0#19 <;> simp [hz]
  · simp

theorem decode_hrWord (a : RegAddr) : decode (hrWord a) = .instr (decodeRead a) := by revert a; decide

theorem decode_hwWord (a : RegAddr) (v : RegWord) : decode (hwWord a v) = .instr (decodeWrite a v) := by
  simp [decode]

theorem decode_evWord (b : BitVec 3) : decode (evWord b) = .instr (decodeEvent b) := by revert b; decide

theorem encode_decodeRead (a : RegAddr) : encode (decodeRead a) = hrWord a ∧ (decodeRead a).wellFormed = true := by
  revert a; decide

theorem encode_decodeWrite (a : RegAddr) (v : RegWord) :
    encode (decodeWrite a v) = hwWord a v ∧ (decodeWrite a v).wellFormed = true := by
  rcases a with ⟨⟨n, hn⟩⟩
  interval_cases n <;> exact ⟨rfl, rfl⟩

theorem encode_decodeEvent (b : BitVec 3) : encode (decodeEvent b) = evWord b ∧ (decodeEvent b).wellFormed = true := by
  revert b; decide

end Sys2Proof
end

