-- ==== Sys2Proof/Laws/State.lean ====
section
/-! SUPPORT. One lemma per field per named update of the state, true by rfl: no later proof unfolds a record update. -/

namespace Sys2Proof.Machine

/-! ### startAttempt -/

@[simp] theorem startAttempt_tpdState (s : State) : (startAttempt s).tpdState = .startLow := rfl
@[simp] theorem startAttempt_tpdCnt (s : State) : (startAttempt s).tpdCnt = 0 := rfl
@[simp] theorem startAttempt_tpdShreg (s : State) : (startAttempt s).tpdShreg = 0 := rfl
@[simp] theorem startAttempt_tpdBitcnt (s : State) : (startAttempt s).tpdBitcnt = 0 := rfl
@[simp] theorem startAttempt_tpdDone (s : State) : (startAttempt s).tpdDone = false := rfl
@[simp] theorem startAttempt_tpdResult (s : State) : (startAttempt s).tpdResult = .none := rfl
@[simp] theorem startAttempt_tpdStage (s : State) : (startAttempt s).tpdStage = .none := rfl
@[simp] theorem startAttempt_frameHum (s : State) : (startAttempt s).frameHum = 0 := rfl
@[simp] theorem startAttempt_frameTemp (s : State) : (startAttempt s).frameTemp = 0 := rfl
@[simp] theorem startAttempt_frameRxCsum (s : State) : (startAttempt s).frameRxCsum = 0 := rfl
@[simp] theorem startAttempt_frameCalcCsum (s : State) : (startAttempt s).frameCalcCsum = 0 := rfl
@[simp] theorem startAttempt_tempSigned (s : State) : (startAttempt s).tempSigned = 0 := rfl
@[simp] theorem startAttempt_qdSnap (s : State) : (startAttempt s).qdSnap = s.qdSnap := rfl
@[simp] theorem startAttempt_qdPrimed (s : State) : (startAttempt s).qdPrimed = s.qdPrimed := rfl
@[simp] theorem startAttempt_qdLastRot (s : State) : (startAttempt s).qdLastRot = s.qdLastRot := rfl
@[simp] theorem startAttempt_qdLastEdge (s : State) : (startAttempt s).qdLastEdge = s.qdLastEdge := rfl
@[simp] theorem startAttempt_menuIndex (s : State) : (startAttempt s).menuIndex = s.menuIndex := rfl
@[simp] theorem startAttempt_menuPending (s : State) : (startAttempt s).menuPending = s.menuPending := rfl
@[simp] theorem startAttempt_line (s : State) : (startAttempt s).line = s.line := rfl
@[simp] theorem startAttempt_pins (s : State) : (startAttempt s).pins = s.pins := rfl
@[simp] theorem startAttempt_busRdata (s : State) : (startAttempt s).busRdata = s.busRdata := rfl
@[simp] theorem startAttempt_params (s : State) : (startAttempt s).params = s.params := rfl
@[simp] theorem startAttempt_stimulus (s : State) : (startAttempt s).stimulus = s.stimulus := rfl
@[simp] theorem startAttempt_cycle (s : State) : (startAttempt s).cycle = s.cycle := rfl

/-! ### endAttempt -/

@[simp] theorem endAttempt_tpdState (c : TpdResult) (g : TpdStage) (s : State) : (endAttempt c g s).tpdState = .idle := rfl
@[simp] theorem endAttempt_tpdCnt (c : TpdResult) (g : TpdStage) (s : State) : (endAttempt c g s).tpdCnt = 0 := rfl
@[simp] theorem endAttempt_tpdShreg (c : TpdResult) (g : TpdStage) (s : State) : (endAttempt c g s).tpdShreg = s.tpdShreg := rfl
@[simp] theorem endAttempt_tpdBitcnt (c : TpdResult) (g : TpdStage) (s : State) : (endAttempt c g s).tpdBitcnt = s.tpdBitcnt := rfl
@[simp] theorem endAttempt_tpdDone (c : TpdResult) (g : TpdStage) (s : State) : (endAttempt c g s).tpdDone = true := rfl
@[simp] theorem endAttempt_tpdResult (c : TpdResult) (g : TpdStage) (s : State) : (endAttempt c g s).tpdResult = c := rfl
@[simp] theorem endAttempt_tpdStage (c : TpdResult) (g : TpdStage) (s : State) : (endAttempt c g s).tpdStage = g := rfl
@[simp] theorem endAttempt_frameHum (c : TpdResult) (g : TpdStage) (s : State) : (endAttempt c g s).frameHum = s.frameHum := rfl
@[simp] theorem endAttempt_frameTemp (c : TpdResult) (g : TpdStage) (s : State) : (endAttempt c g s).frameTemp = s.frameTemp := rfl
@[simp] theorem endAttempt_frameRxCsum (c : TpdResult) (g : TpdStage) (s : State) : (endAttempt c g s).frameRxCsum = s.frameRxCsum := rfl
@[simp] theorem endAttempt_frameCalcCsum (c : TpdResult) (g : TpdStage) (s : State) : (endAttempt c g s).frameCalcCsum = s.frameCalcCsum := rfl
@[simp] theorem endAttempt_tempSigned (c : TpdResult) (g : TpdStage) (s : State) : (endAttempt c g s).tempSigned = s.tempSigned := rfl
@[simp] theorem endAttempt_qdSnap (c : TpdResult) (g : TpdStage) (s : State) : (endAttempt c g s).qdSnap = s.qdSnap := rfl
@[simp] theorem endAttempt_qdPrimed (c : TpdResult) (g : TpdStage) (s : State) : (endAttempt c g s).qdPrimed = s.qdPrimed := rfl
@[simp] theorem endAttempt_qdLastRot (c : TpdResult) (g : TpdStage) (s : State) : (endAttempt c g s).qdLastRot = s.qdLastRot := rfl
@[simp] theorem endAttempt_qdLastEdge (c : TpdResult) (g : TpdStage) (s : State) : (endAttempt c g s).qdLastEdge = s.qdLastEdge := rfl
@[simp] theorem endAttempt_menuIndex (c : TpdResult) (g : TpdStage) (s : State) : (endAttempt c g s).menuIndex = s.menuIndex := rfl
@[simp] theorem endAttempt_menuPending (c : TpdResult) (g : TpdStage) (s : State) : (endAttempt c g s).menuPending = s.menuPending := rfl
@[simp] theorem endAttempt_line (c : TpdResult) (g : TpdStage) (s : State) : (endAttempt c g s).line = s.line := rfl
@[simp] theorem endAttempt_pins (c : TpdResult) (g : TpdStage) (s : State) : (endAttempt c g s).pins = s.pins := rfl
@[simp] theorem endAttempt_busRdata (c : TpdResult) (g : TpdStage) (s : State) : (endAttempt c g s).busRdata = s.busRdata := rfl
@[simp] theorem endAttempt_params (c : TpdResult) (g : TpdStage) (s : State) : (endAttempt c g s).params = s.params := rfl
@[simp] theorem endAttempt_stimulus (c : TpdResult) (g : TpdStage) (s : State) : (endAttempt c g s).stimulus = s.stimulus := rfl
@[simp] theorem endAttempt_cycle (c : TpdResult) (g : TpdStage) (s : State) : (endAttempt c g s).cycle = s.cycle := rfl

/-! ### enterState -/

@[simp] theorem enterState_tpdState (st : TpdState) (s : State) : (enterState st s).tpdState = st := rfl
@[simp] theorem enterState_tpdCnt (st : TpdState) (s : State) : (enterState st s).tpdCnt = 0 := rfl
@[simp] theorem enterState_tpdShreg (st : TpdState) (s : State) : (enterState st s).tpdShreg = s.tpdShreg := rfl
@[simp] theorem enterState_tpdBitcnt (st : TpdState) (s : State) : (enterState st s).tpdBitcnt = s.tpdBitcnt := rfl
@[simp] theorem enterState_tpdDone (st : TpdState) (s : State) : (enterState st s).tpdDone = s.tpdDone := rfl
@[simp] theorem enterState_tpdResult (st : TpdState) (s : State) : (enterState st s).tpdResult = s.tpdResult := rfl
@[simp] theorem enterState_tpdStage (st : TpdState) (s : State) : (enterState st s).tpdStage = s.tpdStage := rfl
@[simp] theorem enterState_frameHum (st : TpdState) (s : State) : (enterState st s).frameHum = s.frameHum := rfl
@[simp] theorem enterState_frameTemp (st : TpdState) (s : State) : (enterState st s).frameTemp = s.frameTemp := rfl
@[simp] theorem enterState_frameRxCsum (st : TpdState) (s : State) : (enterState st s).frameRxCsum = s.frameRxCsum := rfl
@[simp] theorem enterState_frameCalcCsum (st : TpdState) (s : State) : (enterState st s).frameCalcCsum = s.frameCalcCsum := rfl
@[simp] theorem enterState_tempSigned (st : TpdState) (s : State) : (enterState st s).tempSigned = s.tempSigned := rfl
@[simp] theorem enterState_qdSnap (st : TpdState) (s : State) : (enterState st s).qdSnap = s.qdSnap := rfl
@[simp] theorem enterState_qdPrimed (st : TpdState) (s : State) : (enterState st s).qdPrimed = s.qdPrimed := rfl
@[simp] theorem enterState_qdLastRot (st : TpdState) (s : State) : (enterState st s).qdLastRot = s.qdLastRot := rfl
@[simp] theorem enterState_qdLastEdge (st : TpdState) (s : State) : (enterState st s).qdLastEdge = s.qdLastEdge := rfl
@[simp] theorem enterState_menuIndex (st : TpdState) (s : State) : (enterState st s).menuIndex = s.menuIndex := rfl
@[simp] theorem enterState_menuPending (st : TpdState) (s : State) : (enterState st s).menuPending = s.menuPending := rfl
@[simp] theorem enterState_line (st : TpdState) (s : State) : (enterState st s).line = s.line := rfl
@[simp] theorem enterState_pins (st : TpdState) (s : State) : (enterState st s).pins = s.pins := rfl
@[simp] theorem enterState_busRdata (st : TpdState) (s : State) : (enterState st s).busRdata = s.busRdata := rfl
@[simp] theorem enterState_params (st : TpdState) (s : State) : (enterState st s).params = s.params := rfl
@[simp] theorem enterState_stimulus (st : TpdState) (s : State) : (enterState st s).stimulus = s.stimulus := rfl
@[simp] theorem enterState_cycle (st : TpdState) (s : State) : (enterState st s).cycle = s.cycle := rfl

/-! ### countTick -/

@[simp] theorem countTick_tpdState (s : State) : (countTick s).tpdState = s.tpdState := rfl
@[simp] theorem countTick_tpdCnt (s : State) : (countTick s).tpdCnt = s.tpdCnt + 1 := rfl
@[simp] theorem countTick_tpdShreg (s : State) : (countTick s).tpdShreg = s.tpdShreg := rfl
@[simp] theorem countTick_tpdBitcnt (s : State) : (countTick s).tpdBitcnt = s.tpdBitcnt := rfl
@[simp] theorem countTick_tpdDone (s : State) : (countTick s).tpdDone = s.tpdDone := rfl
@[simp] theorem countTick_tpdResult (s : State) : (countTick s).tpdResult = s.tpdResult := rfl
@[simp] theorem countTick_tpdStage (s : State) : (countTick s).tpdStage = s.tpdStage := rfl
@[simp] theorem countTick_frameHum (s : State) : (countTick s).frameHum = s.frameHum := rfl
@[simp] theorem countTick_frameTemp (s : State) : (countTick s).frameTemp = s.frameTemp := rfl
@[simp] theorem countTick_frameRxCsum (s : State) : (countTick s).frameRxCsum = s.frameRxCsum := rfl
@[simp] theorem countTick_frameCalcCsum (s : State) : (countTick s).frameCalcCsum = s.frameCalcCsum := rfl
@[simp] theorem countTick_tempSigned (s : State) : (countTick s).tempSigned = s.tempSigned := rfl
@[simp] theorem countTick_qdSnap (s : State) : (countTick s).qdSnap = s.qdSnap := rfl
@[simp] theorem countTick_qdPrimed (s : State) : (countTick s).qdPrimed = s.qdPrimed := rfl
@[simp] theorem countTick_qdLastRot (s : State) : (countTick s).qdLastRot = s.qdLastRot := rfl
@[simp] theorem countTick_qdLastEdge (s : State) : (countTick s).qdLastEdge = s.qdLastEdge := rfl
@[simp] theorem countTick_menuIndex (s : State) : (countTick s).menuIndex = s.menuIndex := rfl
@[simp] theorem countTick_menuPending (s : State) : (countTick s).menuPending = s.menuPending := rfl
@[simp] theorem countTick_line (s : State) : (countTick s).line = s.line := rfl
@[simp] theorem countTick_pins (s : State) : (countTick s).pins = s.pins := rfl
@[simp] theorem countTick_busRdata (s : State) : (countTick s).busRdata = s.busRdata := rfl
@[simp] theorem countTick_params (s : State) : (countTick s).params = s.params := rfl
@[simp] theorem countTick_stimulus (s : State) : (countTick s).stimulus = s.stimulus := rfl
@[simp] theorem countTick_cycle (s : State) : (countTick s).cycle = s.cycle := rfl

/-! ### sampleBit -/

@[simp] theorem sampleBit_tpdState (b : Level) (s : State) : (sampleBit b s).tpdState = s.tpdState := rfl
@[simp] theorem sampleBit_tpdCnt (b : Level) (s : State) : (sampleBit b s).tpdCnt = s.tpdCnt := rfl
@[simp] theorem sampleBit_tpdShreg (b : Level) (s : State) : (sampleBit b s).tpdShreg = s.tpdShreg.extractLsb' 0 39 ++ BitVec.ofBool b := rfl
@[simp] theorem sampleBit_tpdBitcnt (b : Level) (s : State) : (sampleBit b s).tpdBitcnt = s.tpdBitcnt + 1 := rfl
@[simp] theorem sampleBit_tpdDone (b : Level) (s : State) : (sampleBit b s).tpdDone = s.tpdDone := rfl
@[simp] theorem sampleBit_tpdResult (b : Level) (s : State) : (sampleBit b s).tpdResult = s.tpdResult := rfl
@[simp] theorem sampleBit_tpdStage (b : Level) (s : State) : (sampleBit b s).tpdStage = s.tpdStage := rfl
@[simp] theorem sampleBit_frameHum (b : Level) (s : State) : (sampleBit b s).frameHum = s.frameHum := rfl
@[simp] theorem sampleBit_frameTemp (b : Level) (s : State) : (sampleBit b s).frameTemp = s.frameTemp := rfl
@[simp] theorem sampleBit_frameRxCsum (b : Level) (s : State) : (sampleBit b s).frameRxCsum = s.frameRxCsum := rfl
@[simp] theorem sampleBit_frameCalcCsum (b : Level) (s : State) : (sampleBit b s).frameCalcCsum = s.frameCalcCsum := rfl
@[simp] theorem sampleBit_tempSigned (b : Level) (s : State) : (sampleBit b s).tempSigned = s.tempSigned := rfl
@[simp] theorem sampleBit_qdSnap (b : Level) (s : State) : (sampleBit b s).qdSnap = s.qdSnap := rfl
@[simp] theorem sampleBit_qdPrimed (b : Level) (s : State) : (sampleBit b s).qdPrimed = s.qdPrimed := rfl
@[simp] theorem sampleBit_qdLastRot (b : Level) (s : State) : (sampleBit b s).qdLastRot = s.qdLastRot := rfl
@[simp] theorem sampleBit_qdLastEdge (b : Level) (s : State) : (sampleBit b s).qdLastEdge = s.qdLastEdge := rfl
@[simp] theorem sampleBit_menuIndex (b : Level) (s : State) : (sampleBit b s).menuIndex = s.menuIndex := rfl
@[simp] theorem sampleBit_menuPending (b : Level) (s : State) : (sampleBit b s).menuPending = s.menuPending := rfl
@[simp] theorem sampleBit_line (b : Level) (s : State) : (sampleBit b s).line = s.line := rfl
@[simp] theorem sampleBit_pins (b : Level) (s : State) : (sampleBit b s).pins = s.pins := rfl
@[simp] theorem sampleBit_busRdata (b : Level) (s : State) : (sampleBit b s).busRdata = s.busRdata := rfl
@[simp] theorem sampleBit_params (b : Level) (s : State) : (sampleBit b s).params = s.params := rfl
@[simp] theorem sampleBit_stimulus (b : Level) (s : State) : (sampleBit b s).stimulus = s.stimulus := rfl
@[simp] theorem sampleBit_cycle (b : Level) (s : State) : (sampleBit b s).cycle = s.cycle := rfl

/-! ### writeFrame -/

@[simp] theorem writeFrame_tpdState (s : State) : (writeFrame s).tpdState = s.tpdState := rfl
@[simp] theorem writeFrame_tpdCnt (s : State) : (writeFrame s).tpdCnt = s.tpdCnt := rfl
@[simp] theorem writeFrame_tpdShreg (s : State) : (writeFrame s).tpdShreg = s.tpdShreg := rfl
@[simp] theorem writeFrame_tpdBitcnt (s : State) : (writeFrame s).tpdBitcnt = s.tpdBitcnt := rfl
@[simp] theorem writeFrame_tpdDone (s : State) : (writeFrame s).tpdDone = s.tpdDone := rfl
@[simp] theorem writeFrame_tpdResult (s : State) : (writeFrame s).tpdResult = s.tpdResult := rfl
@[simp] theorem writeFrame_tpdStage (s : State) : (writeFrame s).tpdStage = s.tpdStage := rfl
@[simp] theorem writeFrame_frameHum (s : State) : (writeFrame s).frameHum = humidityRaw s.tpdShreg := rfl
@[simp] theorem writeFrame_frameTemp (s : State) : (writeFrame s).frameTemp = temperatureRaw s.tpdShreg := rfl
@[simp] theorem writeFrame_frameRxCsum (s : State) : (writeFrame s).frameRxCsum = frameByte4 s.tpdShreg := rfl
@[simp] theorem writeFrame_frameCalcCsum (s : State) : (writeFrame s).frameCalcCsum = checksumOf s.tpdShreg := rfl
@[simp] theorem writeFrame_tempSigned (s : State) : (writeFrame s).tempSigned = s.tempSigned := rfl
@[simp] theorem writeFrame_qdSnap (s : State) : (writeFrame s).qdSnap = s.qdSnap := rfl
@[simp] theorem writeFrame_qdPrimed (s : State) : (writeFrame s).qdPrimed = s.qdPrimed := rfl
@[simp] theorem writeFrame_qdLastRot (s : State) : (writeFrame s).qdLastRot = s.qdLastRot := rfl
@[simp] theorem writeFrame_qdLastEdge (s : State) : (writeFrame s).qdLastEdge = s.qdLastEdge := rfl
@[simp] theorem writeFrame_menuIndex (s : State) : (writeFrame s).menuIndex = s.menuIndex := rfl
@[simp] theorem writeFrame_menuPending (s : State) : (writeFrame s).menuPending = s.menuPending := rfl
@[simp] theorem writeFrame_line (s : State) : (writeFrame s).line = s.line := rfl
@[simp] theorem writeFrame_pins (s : State) : (writeFrame s).pins = s.pins := rfl
@[simp] theorem writeFrame_busRdata (s : State) : (writeFrame s).busRdata = s.busRdata := rfl
@[simp] theorem writeFrame_params (s : State) : (writeFrame s).params = s.params := rfl
@[simp] theorem writeFrame_stimulus (s : State) : (writeFrame s).stimulus = s.stimulus := rfl
@[simp] theorem writeFrame_cycle (s : State) : (writeFrame s).cycle = s.cycle := rfl

/-! ### writeTemperature -/

@[simp] theorem writeTemperature_tpdState (s : State) : (writeTemperature s).tpdState = s.tpdState := rfl
@[simp] theorem writeTemperature_tpdCnt (s : State) : (writeTemperature s).tpdCnt = s.tpdCnt := rfl
@[simp] theorem writeTemperature_tpdShreg (s : State) : (writeTemperature s).tpdShreg = s.tpdShreg := rfl
@[simp] theorem writeTemperature_tpdBitcnt (s : State) : (writeTemperature s).tpdBitcnt = s.tpdBitcnt := rfl
@[simp] theorem writeTemperature_tpdDone (s : State) : (writeTemperature s).tpdDone = s.tpdDone := rfl
@[simp] theorem writeTemperature_tpdResult (s : State) : (writeTemperature s).tpdResult = s.tpdResult := rfl
@[simp] theorem writeTemperature_tpdStage (s : State) : (writeTemperature s).tpdStage = s.tpdStage := rfl
@[simp] theorem writeTemperature_frameHum (s : State) : (writeTemperature s).frameHum = s.frameHum := rfl
@[simp] theorem writeTemperature_frameTemp (s : State) : (writeTemperature s).frameTemp = s.frameTemp := rfl
@[simp] theorem writeTemperature_frameRxCsum (s : State) : (writeTemperature s).frameRxCsum = s.frameRxCsum := rfl
@[simp] theorem writeTemperature_frameCalcCsum (s : State) : (writeTemperature s).frameCalcCsum = s.frameCalcCsum := rfl
@[simp] theorem writeTemperature_tempSigned (s : State) : (writeTemperature s).tempSigned = BitVec.ofInt 16 (temperatureTenths (temperatureRaw s.tpdShreg)) := rfl
@[simp] theorem writeTemperature_qdSnap (s : State) : (writeTemperature s).qdSnap = s.qdSnap := rfl
@[simp] theorem writeTemperature_qdPrimed (s : State) : (writeTemperature s).qdPrimed = s.qdPrimed := rfl
@[simp] theorem writeTemperature_qdLastRot (s : State) : (writeTemperature s).qdLastRot = s.qdLastRot := rfl
@[simp] theorem writeTemperature_qdLastEdge (s : State) : (writeTemperature s).qdLastEdge = s.qdLastEdge := rfl
@[simp] theorem writeTemperature_menuIndex (s : State) : (writeTemperature s).menuIndex = s.menuIndex := rfl
@[simp] theorem writeTemperature_menuPending (s : State) : (writeTemperature s).menuPending = s.menuPending := rfl
@[simp] theorem writeTemperature_line (s : State) : (writeTemperature s).line = s.line := rfl
@[simp] theorem writeTemperature_pins (s : State) : (writeTemperature s).pins = s.pins := rfl
@[simp] theorem writeTemperature_busRdata (s : State) : (writeTemperature s).busRdata = s.busRdata := rfl
@[simp] theorem writeTemperature_params (s : State) : (writeTemperature s).params = s.params := rfl
@[simp] theorem writeTemperature_stimulus (s : State) : (writeTemperature s).stimulus = s.stimulus := rfl
@[simp] theorem writeTemperature_cycle (s : State) : (writeTemperature s).cycle = s.cycle := rfl

/-! ### applyRotation -/

@[simp] theorem applyRotation_tpdState (d : Int) (s : State) : (applyRotation d s).tpdState = s.tpdState := rfl
@[simp] theorem applyRotation_tpdCnt (d : Int) (s : State) : (applyRotation d s).tpdCnt = s.tpdCnt := rfl
@[simp] theorem applyRotation_tpdShreg (d : Int) (s : State) : (applyRotation d s).tpdShreg = s.tpdShreg := rfl
@[simp] theorem applyRotation_tpdBitcnt (d : Int) (s : State) : (applyRotation d s).tpdBitcnt = s.tpdBitcnt := rfl
@[simp] theorem applyRotation_tpdDone (d : Int) (s : State) : (applyRotation d s).tpdDone = s.tpdDone := rfl
@[simp] theorem applyRotation_tpdResult (d : Int) (s : State) : (applyRotation d s).tpdResult = s.tpdResult := rfl
@[simp] theorem applyRotation_tpdStage (d : Int) (s : State) : (applyRotation d s).tpdStage = s.tpdStage := rfl
@[simp] theorem applyRotation_frameHum (d : Int) (s : State) : (applyRotation d s).frameHum = s.frameHum := rfl
@[simp] theorem applyRotation_frameTemp (d : Int) (s : State) : (applyRotation d s).frameTemp = s.frameTemp := rfl
@[simp] theorem applyRotation_frameRxCsum (d : Int) (s : State) : (applyRotation d s).frameRxCsum = s.frameRxCsum := rfl
@[simp] theorem applyRotation_frameCalcCsum (d : Int) (s : State) : (applyRotation d s).frameCalcCsum = s.frameCalcCsum := rfl
@[simp] theorem applyRotation_tempSigned (d : Int) (s : State) : (applyRotation d s).tempSigned = s.tempSigned := rfl
@[simp] theorem applyRotation_qdSnap (d : Int) (s : State) : (applyRotation d s).qdSnap = s.qdSnap := rfl
@[simp] theorem applyRotation_qdPrimed (d : Int) (s : State) : (applyRotation d s).qdPrimed = s.qdPrimed := rfl
@[simp] theorem applyRotation_qdLastRot (d : Int) (s : State) : (applyRotation d s).qdLastRot = s.qdLastRot := rfl
@[simp] theorem applyRotation_qdLastEdge (d : Int) (s : State) : (applyRotation d s).qdLastEdge = s.qdLastEdge := rfl
@[simp] theorem applyRotation_menuIndex (d : Int) (s : State) : (applyRotation d s).menuIndex = BitVec.ofInt 8 (clamp (s.menuIndex.toNat + d) 0 s.params.max.toNat) := rfl
@[simp] theorem applyRotation_menuPending (d : Int) (s : State) : (applyRotation d s).menuPending = s.menuPending := rfl
@[simp] theorem applyRotation_line (d : Int) (s : State) : (applyRotation d s).line = s.line := rfl
@[simp] theorem applyRotation_pins (d : Int) (s : State) : (applyRotation d s).pins = s.pins := rfl
@[simp] theorem applyRotation_busRdata (d : Int) (s : State) : (applyRotation d s).busRdata = s.busRdata := rfl
@[simp] theorem applyRotation_params (d : Int) (s : State) : (applyRotation d s).params = s.params := rfl
@[simp] theorem applyRotation_stimulus (d : Int) (s : State) : (applyRotation d s).stimulus = s.stimulus := rfl
@[simp] theorem applyRotation_cycle (d : Int) (s : State) : (applyRotation d s).cycle = s.cycle := rfl

/-! ### applyButtonEdge -/

@[simp] theorem applyButtonEdge_tpdState (s : State) : (applyButtonEdge s).tpdState = s.tpdState := rfl
@[simp] theorem applyButtonEdge_tpdCnt (s : State) : (applyButtonEdge s).tpdCnt = s.tpdCnt := rfl
@[simp] theorem applyButtonEdge_tpdShreg (s : State) : (applyButtonEdge s).tpdShreg = s.tpdShreg := rfl
@[simp] theorem applyButtonEdge_tpdBitcnt (s : State) : (applyButtonEdge s).tpdBitcnt = s.tpdBitcnt := rfl
@[simp] theorem applyButtonEdge_tpdDone (s : State) : (applyButtonEdge s).tpdDone = s.tpdDone := rfl
@[simp] theorem applyButtonEdge_tpdResult (s : State) : (applyButtonEdge s).tpdResult = s.tpdResult := rfl
@[simp] theorem applyButtonEdge_tpdStage (s : State) : (applyButtonEdge s).tpdStage = s.tpdStage := rfl
@[simp] theorem applyButtonEdge_frameHum (s : State) : (applyButtonEdge s).frameHum = s.frameHum := rfl
@[simp] theorem applyButtonEdge_frameTemp (s : State) : (applyButtonEdge s).frameTemp = s.frameTemp := rfl
@[simp] theorem applyButtonEdge_frameRxCsum (s : State) : (applyButtonEdge s).frameRxCsum = s.frameRxCsum := rfl
@[simp] theorem applyButtonEdge_frameCalcCsum (s : State) : (applyButtonEdge s).frameCalcCsum = s.frameCalcCsum := rfl
@[simp] theorem applyButtonEdge_tempSigned (s : State) : (applyButtonEdge s).tempSigned = s.tempSigned := rfl
@[simp] theorem applyButtonEdge_qdSnap (s : State) : (applyButtonEdge s).qdSnap = s.qdSnap := rfl
@[simp] theorem applyButtonEdge_qdPrimed (s : State) : (applyButtonEdge s).qdPrimed = s.qdPrimed := rfl
@[simp] theorem applyButtonEdge_qdLastRot (s : State) : (applyButtonEdge s).qdLastRot = s.qdLastRot := rfl
@[simp] theorem applyButtonEdge_qdLastEdge (s : State) : (applyButtonEdge s).qdLastEdge = s.qdLastEdge := rfl
@[simp] theorem applyButtonEdge_menuIndex (s : State) : (applyButtonEdge s).menuIndex = s.menuIndex := rfl
@[simp] theorem applyButtonEdge_menuPending (s : State) : (applyButtonEdge s).menuPending = true := rfl
@[simp] theorem applyButtonEdge_line (s : State) : (applyButtonEdge s).line = s.line := rfl
@[simp] theorem applyButtonEdge_pins (s : State) : (applyButtonEdge s).pins = s.pins := rfl
@[simp] theorem applyButtonEdge_busRdata (s : State) : (applyButtonEdge s).busRdata = s.busRdata := rfl
@[simp] theorem applyButtonEdge_params (s : State) : (applyButtonEdge s).params = s.params := rfl
@[simp] theorem applyButtonEdge_stimulus (s : State) : (applyButtonEdge s).stimulus = s.stimulus := rfl
@[simp] theorem applyButtonEdge_cycle (s : State) : (applyButtonEdge s).cycle = s.cycle := rfl

/-! ### consumePendingAction -/

@[simp] theorem consumePendingAction_tpdState (s : State) : (consumePendingAction s).tpdState = s.tpdState := rfl
@[simp] theorem consumePendingAction_tpdCnt (s : State) : (consumePendingAction s).tpdCnt = s.tpdCnt := rfl
@[simp] theorem consumePendingAction_tpdShreg (s : State) : (consumePendingAction s).tpdShreg = s.tpdShreg := rfl
@[simp] theorem consumePendingAction_tpdBitcnt (s : State) : (consumePendingAction s).tpdBitcnt = s.tpdBitcnt := rfl
@[simp] theorem consumePendingAction_tpdDone (s : State) : (consumePendingAction s).tpdDone = s.tpdDone := rfl
@[simp] theorem consumePendingAction_tpdResult (s : State) : (consumePendingAction s).tpdResult = s.tpdResult := rfl
@[simp] theorem consumePendingAction_tpdStage (s : State) : (consumePendingAction s).tpdStage = s.tpdStage := rfl
@[simp] theorem consumePendingAction_frameHum (s : State) : (consumePendingAction s).frameHum = s.frameHum := rfl
@[simp] theorem consumePendingAction_frameTemp (s : State) : (consumePendingAction s).frameTemp = s.frameTemp := rfl
@[simp] theorem consumePendingAction_frameRxCsum (s : State) : (consumePendingAction s).frameRxCsum = s.frameRxCsum := rfl
@[simp] theorem consumePendingAction_frameCalcCsum (s : State) : (consumePendingAction s).frameCalcCsum = s.frameCalcCsum := rfl
@[simp] theorem consumePendingAction_tempSigned (s : State) : (consumePendingAction s).tempSigned = s.tempSigned := rfl
@[simp] theorem consumePendingAction_qdSnap (s : State) : (consumePendingAction s).qdSnap = s.qdSnap := rfl
@[simp] theorem consumePendingAction_qdPrimed (s : State) : (consumePendingAction s).qdPrimed = s.qdPrimed := rfl
@[simp] theorem consumePendingAction_qdLastRot (s : State) : (consumePendingAction s).qdLastRot = s.qdLastRot := rfl
@[simp] theorem consumePendingAction_qdLastEdge (s : State) : (consumePendingAction s).qdLastEdge = s.qdLastEdge := rfl
@[simp] theorem consumePendingAction_menuIndex (s : State) : (consumePendingAction s).menuIndex = s.menuIndex := rfl
@[simp] theorem consumePendingAction_menuPending (s : State) : (consumePendingAction s).menuPending = false := rfl
@[simp] theorem consumePendingAction_line (s : State) : (consumePendingAction s).line = s.line := rfl
@[simp] theorem consumePendingAction_pins (s : State) : (consumePendingAction s).pins = s.pins := rfl
@[simp] theorem consumePendingAction_busRdata (s : State) : (consumePendingAction s).busRdata = s.busRdata := rfl
@[simp] theorem consumePendingAction_params (s : State) : (consumePendingAction s).params = s.params := rfl
@[simp] theorem consumePendingAction_stimulus (s : State) : (consumePendingAction s).stimulus = s.stimulus := rfl
@[simp] theorem consumePendingAction_cycle (s : State) : (consumePendingAction s).cycle = s.cycle := rfl

/-! ### storeSample -/

@[simp] theorem storeSample_tpdState (c : Snapshot) (r : Rotation) (e : Bool) (s : State) : (storeSample c r e s).tpdState = s.tpdState := rfl
@[simp] theorem storeSample_tpdCnt (c : Snapshot) (r : Rotation) (e : Bool) (s : State) : (storeSample c r e s).tpdCnt = s.tpdCnt := rfl
@[simp] theorem storeSample_tpdShreg (c : Snapshot) (r : Rotation) (e : Bool) (s : State) : (storeSample c r e s).tpdShreg = s.tpdShreg := rfl
@[simp] theorem storeSample_tpdBitcnt (c : Snapshot) (r : Rotation) (e : Bool) (s : State) : (storeSample c r e s).tpdBitcnt = s.tpdBitcnt := rfl
@[simp] theorem storeSample_tpdDone (c : Snapshot) (r : Rotation) (e : Bool) (s : State) : (storeSample c r e s).tpdDone = s.tpdDone := rfl
@[simp] theorem storeSample_tpdResult (c : Snapshot) (r : Rotation) (e : Bool) (s : State) : (storeSample c r e s).tpdResult = s.tpdResult := rfl
@[simp] theorem storeSample_tpdStage (c : Snapshot) (r : Rotation) (e : Bool) (s : State) : (storeSample c r e s).tpdStage = s.tpdStage := rfl
@[simp] theorem storeSample_frameHum (c : Snapshot) (r : Rotation) (e : Bool) (s : State) : (storeSample c r e s).frameHum = s.frameHum := rfl
@[simp] theorem storeSample_frameTemp (c : Snapshot) (r : Rotation) (e : Bool) (s : State) : (storeSample c r e s).frameTemp = s.frameTemp := rfl
@[simp] theorem storeSample_frameRxCsum (c : Snapshot) (r : Rotation) (e : Bool) (s : State) : (storeSample c r e s).frameRxCsum = s.frameRxCsum := rfl
@[simp] theorem storeSample_frameCalcCsum (c : Snapshot) (r : Rotation) (e : Bool) (s : State) : (storeSample c r e s).frameCalcCsum = s.frameCalcCsum := rfl
@[simp] theorem storeSample_tempSigned (c : Snapshot) (r : Rotation) (e : Bool) (s : State) : (storeSample c r e s).tempSigned = s.tempSigned := rfl
@[simp] theorem storeSample_qdSnap (c : Snapshot) (r : Rotation) (e : Bool) (s : State) : (storeSample c r e s).qdSnap = c := rfl
@[simp] theorem storeSample_qdPrimed (c : Snapshot) (r : Rotation) (e : Bool) (s : State) : (storeSample c r e s).qdPrimed = true := rfl
@[simp] theorem storeSample_qdLastRot (c : Snapshot) (r : Rotation) (e : Bool) (s : State) : (storeSample c r e s).qdLastRot = r := rfl
@[simp] theorem storeSample_qdLastEdge (c : Snapshot) (r : Rotation) (e : Bool) (s : State) : (storeSample c r e s).qdLastEdge = e := rfl
@[simp] theorem storeSample_menuIndex (c : Snapshot) (r : Rotation) (e : Bool) (s : State) : (storeSample c r e s).menuIndex = s.menuIndex := rfl
@[simp] theorem storeSample_menuPending (c : Snapshot) (r : Rotation) (e : Bool) (s : State) : (storeSample c r e s).menuPending = s.menuPending := rfl
@[simp] theorem storeSample_line (c : Snapshot) (r : Rotation) (e : Bool) (s : State) : (storeSample c r e s).line = s.line := rfl
@[simp] theorem storeSample_pins (c : Snapshot) (r : Rotation) (e : Bool) (s : State) : (storeSample c r e s).pins = s.pins := rfl
@[simp] theorem storeSample_busRdata (c : Snapshot) (r : Rotation) (e : Bool) (s : State) : (storeSample c r e s).busRdata = s.busRdata := rfl
@[simp] theorem storeSample_params (c : Snapshot) (r : Rotation) (e : Bool) (s : State) : (storeSample c r e s).params = s.params := rfl
@[simp] theorem storeSample_stimulus (c : Snapshot) (r : Rotation) (e : Bool) (s : State) : (storeSample c r e s).stimulus = s.stimulus := rfl
@[simp] theorem storeSample_cycle (c : Snapshot) (r : Rotation) (e : Bool) (s : State) : (storeSample c r e s).cycle = s.cycle := rfl

/-! ### returnData -/

@[simp] theorem returnData_tpdState (v : RegWord) (s : State) : (returnData v s).tpdState = s.tpdState := rfl
@[simp] theorem returnData_tpdCnt (v : RegWord) (s : State) : (returnData v s).tpdCnt = s.tpdCnt := rfl
@[simp] theorem returnData_tpdShreg (v : RegWord) (s : State) : (returnData v s).tpdShreg = s.tpdShreg := rfl
@[simp] theorem returnData_tpdBitcnt (v : RegWord) (s : State) : (returnData v s).tpdBitcnt = s.tpdBitcnt := rfl
@[simp] theorem returnData_tpdDone (v : RegWord) (s : State) : (returnData v s).tpdDone = s.tpdDone := rfl
@[simp] theorem returnData_tpdResult (v : RegWord) (s : State) : (returnData v s).tpdResult = s.tpdResult := rfl
@[simp] theorem returnData_tpdStage (v : RegWord) (s : State) : (returnData v s).tpdStage = s.tpdStage := rfl
@[simp] theorem returnData_frameHum (v : RegWord) (s : State) : (returnData v s).frameHum = s.frameHum := rfl
@[simp] theorem returnData_frameTemp (v : RegWord) (s : State) : (returnData v s).frameTemp = s.frameTemp := rfl
@[simp] theorem returnData_frameRxCsum (v : RegWord) (s : State) : (returnData v s).frameRxCsum = s.frameRxCsum := rfl
@[simp] theorem returnData_frameCalcCsum (v : RegWord) (s : State) : (returnData v s).frameCalcCsum = s.frameCalcCsum := rfl
@[simp] theorem returnData_tempSigned (v : RegWord) (s : State) : (returnData v s).tempSigned = s.tempSigned := rfl
@[simp] theorem returnData_qdSnap (v : RegWord) (s : State) : (returnData v s).qdSnap = s.qdSnap := rfl
@[simp] theorem returnData_qdPrimed (v : RegWord) (s : State) : (returnData v s).qdPrimed = s.qdPrimed := rfl
@[simp] theorem returnData_qdLastRot (v : RegWord) (s : State) : (returnData v s).qdLastRot = s.qdLastRot := rfl
@[simp] theorem returnData_qdLastEdge (v : RegWord) (s : State) : (returnData v s).qdLastEdge = s.qdLastEdge := rfl
@[simp] theorem returnData_menuIndex (v : RegWord) (s : State) : (returnData v s).menuIndex = s.menuIndex := rfl
@[simp] theorem returnData_menuPending (v : RegWord) (s : State) : (returnData v s).menuPending = s.menuPending := rfl
@[simp] theorem returnData_line (v : RegWord) (s : State) : (returnData v s).line = s.line := rfl
@[simp] theorem returnData_pins (v : RegWord) (s : State) : (returnData v s).pins = s.pins := rfl
@[simp] theorem returnData_busRdata (v : RegWord) (s : State) : (returnData v s).busRdata = some v := rfl
@[simp] theorem returnData_params (v : RegWord) (s : State) : (returnData v s).params = s.params := rfl
@[simp] theorem returnData_stimulus (v : RegWord) (s : State) : (returnData v s).stimulus = s.stimulus := rfl
@[simp] theorem returnData_cycle (v : RegWord) (s : State) : (returnData v s).cycle = s.cycle := rfl

/-! ### resetState -/

@[simp] theorem resetState_tpdState (s : State) : (resetState s).tpdState = .idle := rfl
@[simp] theorem resetState_tpdCnt (s : State) : (resetState s).tpdCnt = 0 := rfl
@[simp] theorem resetState_tpdShreg (s : State) : (resetState s).tpdShreg = 0 := rfl
@[simp] theorem resetState_tpdBitcnt (s : State) : (resetState s).tpdBitcnt = 0 := rfl
@[simp] theorem resetState_tpdDone (s : State) : (resetState s).tpdDone = false := rfl
@[simp] theorem resetState_tpdResult (s : State) : (resetState s).tpdResult = .none := rfl
@[simp] theorem resetState_tpdStage (s : State) : (resetState s).tpdStage = .none := rfl
@[simp] theorem resetState_frameHum (s : State) : (resetState s).frameHum = 0 := rfl
@[simp] theorem resetState_frameTemp (s : State) : (resetState s).frameTemp = 0 := rfl
@[simp] theorem resetState_frameRxCsum (s : State) : (resetState s).frameRxCsum = 0 := rfl
@[simp] theorem resetState_frameCalcCsum (s : State) : (resetState s).frameCalcCsum = 0 := rfl
@[simp] theorem resetState_tempSigned (s : State) : (resetState s).tempSigned = 0 := rfl
@[simp] theorem resetState_qdSnap (s : State) : (resetState s).qdSnap = 0 := rfl
@[simp] theorem resetState_qdPrimed (s : State) : (resetState s).qdPrimed = false := rfl
@[simp] theorem resetState_qdLastRot (s : State) : (resetState s).qdLastRot = .zero := rfl
@[simp] theorem resetState_qdLastEdge (s : State) : (resetState s).qdLastEdge = false := rfl
@[simp] theorem resetState_menuIndex (s : State) : (resetState s).menuIndex = 0 := rfl
@[simp] theorem resetState_menuPending (s : State) : (resetState s).menuPending = false := rfl
@[simp] theorem resetState_line (s : State) : (resetState s).line = false := rfl
@[simp] theorem resetState_pins (s : State) : (resetState s).pins = 0 := rfl
@[simp] theorem resetState_busRdata (s : State) : (resetState s).busRdata = some 0 := rfl
@[simp] theorem resetState_params (s : State) : (resetState s).params = s.params := rfl
@[simp] theorem resetState_stimulus (s : State) : (resetState s).stimulus = s.stimulus := rfl
@[simp] theorem resetState_cycle (s : State) : (resetState s).cycle = s.cycle := rfl

/-! ### beginCycle -/

@[simp] theorem beginCycle_tpdState (l : Level) (p : Snapshot) (r : List CycleRecord) (s : State) : (beginCycle l p r s).tpdState = s.tpdState := rfl
@[simp] theorem beginCycle_tpdCnt (l : Level) (p : Snapshot) (r : List CycleRecord) (s : State) : (beginCycle l p r s).tpdCnt = s.tpdCnt := rfl
@[simp] theorem beginCycle_tpdShreg (l : Level) (p : Snapshot) (r : List CycleRecord) (s : State) : (beginCycle l p r s).tpdShreg = s.tpdShreg := rfl
@[simp] theorem beginCycle_tpdBitcnt (l : Level) (p : Snapshot) (r : List CycleRecord) (s : State) : (beginCycle l p r s).tpdBitcnt = s.tpdBitcnt := rfl
@[simp] theorem beginCycle_tpdDone (l : Level) (p : Snapshot) (r : List CycleRecord) (s : State) : (beginCycle l p r s).tpdDone = s.tpdDone := rfl
@[simp] theorem beginCycle_tpdResult (l : Level) (p : Snapshot) (r : List CycleRecord) (s : State) : (beginCycle l p r s).tpdResult = s.tpdResult := rfl
@[simp] theorem beginCycle_tpdStage (l : Level) (p : Snapshot) (r : List CycleRecord) (s : State) : (beginCycle l p r s).tpdStage = s.tpdStage := rfl
@[simp] theorem beginCycle_frameHum (l : Level) (p : Snapshot) (r : List CycleRecord) (s : State) : (beginCycle l p r s).frameHum = s.frameHum := rfl
@[simp] theorem beginCycle_frameTemp (l : Level) (p : Snapshot) (r : List CycleRecord) (s : State) : (beginCycle l p r s).frameTemp = s.frameTemp := rfl
@[simp] theorem beginCycle_frameRxCsum (l : Level) (p : Snapshot) (r : List CycleRecord) (s : State) : (beginCycle l p r s).frameRxCsum = s.frameRxCsum := rfl
@[simp] theorem beginCycle_frameCalcCsum (l : Level) (p : Snapshot) (r : List CycleRecord) (s : State) : (beginCycle l p r s).frameCalcCsum = s.frameCalcCsum := rfl
@[simp] theorem beginCycle_tempSigned (l : Level) (p : Snapshot) (r : List CycleRecord) (s : State) : (beginCycle l p r s).tempSigned = s.tempSigned := rfl
@[simp] theorem beginCycle_qdSnap (l : Level) (p : Snapshot) (r : List CycleRecord) (s : State) : (beginCycle l p r s).qdSnap = s.qdSnap := rfl
@[simp] theorem beginCycle_qdPrimed (l : Level) (p : Snapshot) (r : List CycleRecord) (s : State) : (beginCycle l p r s).qdPrimed = s.qdPrimed := rfl
@[simp] theorem beginCycle_qdLastRot (l : Level) (p : Snapshot) (r : List CycleRecord) (s : State) : (beginCycle l p r s).qdLastRot = s.qdLastRot := rfl
@[simp] theorem beginCycle_qdLastEdge (l : Level) (p : Snapshot) (r : List CycleRecord) (s : State) : (beginCycle l p r s).qdLastEdge = s.qdLastEdge := rfl
@[simp] theorem beginCycle_menuIndex (l : Level) (p : Snapshot) (r : List CycleRecord) (s : State) : (beginCycle l p r s).menuIndex = s.menuIndex := rfl
@[simp] theorem beginCycle_menuPending (l : Level) (p : Snapshot) (r : List CycleRecord) (s : State) : (beginCycle l p r s).menuPending = s.menuPending := rfl
@[simp] theorem beginCycle_line (l : Level) (p : Snapshot) (r : List CycleRecord) (s : State) : (beginCycle l p r s).line = l := rfl
@[simp] theorem beginCycle_pins (l : Level) (p : Snapshot) (r : List CycleRecord) (s : State) : (beginCycle l p r s).pins = p := rfl
@[simp] theorem beginCycle_busRdata (l : Level) (p : Snapshot) (r : List CycleRecord) (s : State) : (beginCycle l p r s).busRdata = none := rfl
@[simp] theorem beginCycle_params (l : Level) (p : Snapshot) (r : List CycleRecord) (s : State) : (beginCycle l p r s).params = s.params := rfl
@[simp] theorem beginCycle_stimulus (l : Level) (p : Snapshot) (r : List CycleRecord) (s : State) : (beginCycle l p r s).stimulus = r := rfl
@[simp] theorem beginCycle_cycle (l : Level) (p : Snapshot) (r : List CycleRecord) (s : State) : (beginCycle l p r s).cycle = s.cycle + 1 := rfl

/-! ### withTpdOf -/

@[simp] theorem withTpdOf_tpdState (q s : State) : (q.withTpdOf s).tpdState = s.tpdState := rfl
@[simp] theorem withTpdOf_tpdCnt (q s : State) : (q.withTpdOf s).tpdCnt = s.tpdCnt := rfl
@[simp] theorem withTpdOf_tpdShreg (q s : State) : (q.withTpdOf s).tpdShreg = s.tpdShreg := rfl
@[simp] theorem withTpdOf_tpdBitcnt (q s : State) : (q.withTpdOf s).tpdBitcnt = s.tpdBitcnt := rfl
@[simp] theorem withTpdOf_tpdDone (q s : State) : (q.withTpdOf s).tpdDone = s.tpdDone := rfl
@[simp] theorem withTpdOf_tpdResult (q s : State) : (q.withTpdOf s).tpdResult = s.tpdResult := rfl
@[simp] theorem withTpdOf_tpdStage (q s : State) : (q.withTpdOf s).tpdStage = s.tpdStage := rfl
@[simp] theorem withTpdOf_frameHum (q s : State) : (q.withTpdOf s).frameHum = s.frameHum := rfl
@[simp] theorem withTpdOf_frameTemp (q s : State) : (q.withTpdOf s).frameTemp = s.frameTemp := rfl
@[simp] theorem withTpdOf_frameRxCsum (q s : State) : (q.withTpdOf s).frameRxCsum = s.frameRxCsum := rfl
@[simp] theorem withTpdOf_frameCalcCsum (q s : State) : (q.withTpdOf s).frameCalcCsum = s.frameCalcCsum := rfl
@[simp] theorem withTpdOf_tempSigned (q s : State) : (q.withTpdOf s).tempSigned = s.tempSigned := rfl
@[simp] theorem withTpdOf_qdSnap (q s : State) : (q.withTpdOf s).qdSnap = q.qdSnap := rfl
@[simp] theorem withTpdOf_qdPrimed (q s : State) : (q.withTpdOf s).qdPrimed = q.qdPrimed := rfl
@[simp] theorem withTpdOf_qdLastRot (q s : State) : (q.withTpdOf s).qdLastRot = q.qdLastRot := rfl
@[simp] theorem withTpdOf_qdLastEdge (q s : State) : (q.withTpdOf s).qdLastEdge = q.qdLastEdge := rfl
@[simp] theorem withTpdOf_menuIndex (q s : State) : (q.withTpdOf s).menuIndex = q.menuIndex := rfl
@[simp] theorem withTpdOf_menuPending (q s : State) : (q.withTpdOf s).menuPending = q.menuPending := rfl
@[simp] theorem withTpdOf_line (q s : State) : (q.withTpdOf s).line = q.line := rfl
@[simp] theorem withTpdOf_pins (q s : State) : (q.withTpdOf s).pins = q.pins := rfl
@[simp] theorem withTpdOf_busRdata (q s : State) : (q.withTpdOf s).busRdata = q.busRdata := rfl
@[simp] theorem withTpdOf_params (q s : State) : (q.withTpdOf s).params = q.params := rfl
@[simp] theorem withTpdOf_stimulus (q s : State) : (q.withTpdOf s).stimulus = q.stimulus := rfl
@[simp] theorem withTpdOf_cycle (q s : State) : (q.withTpdOf s).cycle = q.cycle := rfl

/-! ### withTicks -/

@[simp] theorem withTicks_tpdState (s : State) (ls : List Level) : (s.withTicks ls).tpdState = s.tpdState := rfl
@[simp] theorem withTicks_tpdCnt (s : State) (ls : List Level) : (s.withTicks ls).tpdCnt = s.tpdCnt := rfl
@[simp] theorem withTicks_tpdShreg (s : State) (ls : List Level) : (s.withTicks ls).tpdShreg = s.tpdShreg := rfl
@[simp] theorem withTicks_tpdBitcnt (s : State) (ls : List Level) : (s.withTicks ls).tpdBitcnt = s.tpdBitcnt := rfl
@[simp] theorem withTicks_tpdDone (s : State) (ls : List Level) : (s.withTicks ls).tpdDone = s.tpdDone := rfl
@[simp] theorem withTicks_tpdResult (s : State) (ls : List Level) : (s.withTicks ls).tpdResult = s.tpdResult := rfl
@[simp] theorem withTicks_tpdStage (s : State) (ls : List Level) : (s.withTicks ls).tpdStage = s.tpdStage := rfl
@[simp] theorem withTicks_frameHum (s : State) (ls : List Level) : (s.withTicks ls).frameHum = s.frameHum := rfl
@[simp] theorem withTicks_frameTemp (s : State) (ls : List Level) : (s.withTicks ls).frameTemp = s.frameTemp := rfl
@[simp] theorem withTicks_frameRxCsum (s : State) (ls : List Level) : (s.withTicks ls).frameRxCsum = s.frameRxCsum := rfl
@[simp] theorem withTicks_frameCalcCsum (s : State) (ls : List Level) : (s.withTicks ls).frameCalcCsum = s.frameCalcCsum := rfl
@[simp] theorem withTicks_tempSigned (s : State) (ls : List Level) : (s.withTicks ls).tempSigned = s.tempSigned := rfl
@[simp] theorem withTicks_qdSnap (s : State) (ls : List Level) : (s.withTicks ls).qdSnap = s.qdSnap := rfl
@[simp] theorem withTicks_qdPrimed (s : State) (ls : List Level) : (s.withTicks ls).qdPrimed = s.qdPrimed := rfl
@[simp] theorem withTicks_qdLastRot (s : State) (ls : List Level) : (s.withTicks ls).qdLastRot = s.qdLastRot := rfl
@[simp] theorem withTicks_qdLastEdge (s : State) (ls : List Level) : (s.withTicks ls).qdLastEdge = s.qdLastEdge := rfl
@[simp] theorem withTicks_menuIndex (s : State) (ls : List Level) : (s.withTicks ls).menuIndex = s.menuIndex := rfl
@[simp] theorem withTicks_menuPending (s : State) (ls : List Level) : (s.withTicks ls).menuPending = s.menuPending := rfl
@[simp] theorem withTicks_line (s : State) (ls : List Level) : (s.withTicks ls).line = s.line := rfl
@[simp] theorem withTicks_pins (s : State) (ls : List Level) : (s.withTicks ls).pins = s.pins := rfl
@[simp] theorem withTicks_busRdata (s : State) (ls : List Level) : (s.withTicks ls).busRdata = s.busRdata := rfl
@[simp] theorem withTicks_params (s : State) (ls : List Level) : (s.withTicks ls).params = s.params := rfl
@[simp] theorem withTicks_stimulus (s : State) (ls : List Level) : (s.withTicks ls).stimulus = ls.map tickRecord ++ s.stimulus := rfl
@[simp] theorem withTicks_cycle (s : State) (ls : List Level) : (s.withTicks ls).cycle = s.cycle := rfl

end Sys2Proof.Machine
end

