-- ==== Sys2Proof/Laws/Ops.lean ====
section
/-! SUPPORT. For each shared operation, once, everything it can do, and what it leaves alone. Proofs cite these instead of
unfolding the operation. -/

namespace Sys2Proof.Machine

/-! ## Parameters -/

theorem sampleOffset_toNat : Config.sampleOffset.toNat = Config.sampleOffsetLessOne.val + 1 := by
  have := Config.sampleOffsetLessOne.isLt
  simp only [Config.sampleOffset, BitVec.toNat_ofNat]
  omega

theorem config_params_legal : Config.params.legal :=
  ⟨by decide, by decide, by show 1 ≤ Config.sampleOffset.toNat; rw [sampleOffset_toNat]; omega⟩

/-! ## The primitives of the TPD -/

/-- Hold either leaves the state on its last tick or counts one (spec/40_tpd.md R111). -/
theorem hold_cases (n : BitVec 16) (next : TpdState) (s : State) :
    (s.tpdCnt.toNat + 1 = n.toNat ∧ hold n next s = enterState next s) ∨
    (s.tpdCnt.toNat + 1 ≠ n.toNat ∧ hold n next s = countTick s) := by
  unfold hold; split <;> simp_all

/-- Finish records OK or CHECKSUM_MISMATCH, by the checksum (R120, R121). -/
theorem finish_cases (s : State) :
    (frameValid s.tpdShreg = true ∧ finish s = endAttempt .ok .none (writeTemperature (writeFrame s))) ∨
    (frameValid s.tpdShreg = false ∧ finish s = endAttempt .checksumMismatch .none (writeFrame s)) := by
  unfold finish; split <;> simp_all

/-- Wait succeeds when the line is at its target, else times out on its last look, else counts one tick (R110). -/
theorem wait_cases (target : Level) (budget : BitVec 16) (next : WaitNext) (stage : TpdStage) (s : State) :
    (s.line = target ∧ ∃ st, next = .goto st ∧ wait target budget next stage s = enterState st s) ∨
    (s.line = target ∧ next = .finish ∧ wait target budget next stage s = finish s) ∨
    (s.line ≠ target ∧ s.tpdCnt = budget ∧
      wait target budget next stage s = endAttempt (timeoutResult stage) stage s) ∨
    (s.line ≠ target ∧ s.tpdCnt ≠ budget ∧ wait target budget next stage s = countTick s) := by
  unfold wait
  by_cases hl : s.line = target
  · cases next <;> simp [hl]
  · by_cases hb : s.tpdCnt = budget <;> simp [hl, hb]

/-- SampleAfterOffset samples on its last tick and counts before it (R113). -/
theorem sampleAfterOffset_cases (s : State) :
    (s.tpdCnt.toNat + 1 = s.params.sampleOffset.toNat ∧
      sampleAfterOffset s = enterState .bitFall (sampleBit s.line s)) ∨
    (s.tpdCnt.toNat + 1 ≠ s.params.sampleOffset.toNat ∧ sampleAfterOffset s = countTick s) := by
  unfold sampleAfterOffset; split <;> simp_all

theorem afterBitFall_cases (s : State) :
    (s.tpdBitcnt = 40 ∧ afterBitFall s = .finish) ∨ (s.tpdBitcnt ≠ 40 ∧ afterBitFall s = .goto .bitRise) := by
  unfold afterBitFall; split <;> simp_all

/-! ## The tick -/

theorem tpdTick_idle {s : State} (h : s.tpdState = .idle) : tpdTick s = s := by simp [tpdTick, h]

theorem tpdTick_startLow {s : State} (h : s.tpdState = .startLow) : tpdTick s = hold s.params.tStartLow .release s := by
  simp [tpdTick, h]

theorem tpdTick_release {s : State} (h : s.tpdState = .release) : tpdTick s = hold s.params.tRelease .ack1 s := by
  simp [tpdTick, h]

theorem tpdTick_ack1 {s : State} (h : s.tpdState = .ack1) :
    tpdTick s = wait false s.params.ackBudget (.goto .ack2) .ack1 s := by simp [tpdTick, h]

theorem tpdTick_ack2 {s : State} (h : s.tpdState = .ack2) :
    tpdTick s = wait true s.params.ackBudget (.goto .ack3) .ack2 s := by simp [tpdTick, h]

theorem tpdTick_ack3 {s : State} (h : s.tpdState = .ack3) :
    tpdTick s = wait false s.params.ackBudget (.goto .bitRise) .ack3 s := by simp [tpdTick, h]

theorem tpdTick_bitRise {s : State} (h : s.tpdState = .bitRise) :
    tpdTick s = wait true s.params.bitBudget (.goto .bitDelay) .bitRise s := by simp [tpdTick, h]

theorem tpdTick_bitDelay {s : State} (h : s.tpdState = .bitDelay) : tpdTick s = sampleAfterOffset s := by
  simp [tpdTick, h]

theorem tpdTick_bitFall {s : State} (h : s.tpdState = .bitFall) :
    tpdTick s = wait false s.params.bitBudget (afterBitFall s) .bitFall s := by simp [tpdTick, h]

/-- The forms a tick's next state can have (R102): nothing in IDLE, count, enter another state, sample a bit, time out, or
finish. Which one it is, and when, the lemma of each TPD state and of `hold`, `wait` and `sampleAfterOffset` says. -/
inductive TickForm (s : State) : State → Prop where
  | idle (h : s.tpdState = .idle) : TickForm s s
  | count : TickForm s (countTick s)
  | enter (st : TpdState) : TickForm s (enterState st s)
  | sample : TickForm s (enterState .bitFall (sampleBit s.line s))
  | timeout (stage : TpdStage) : TickForm s (endAttempt (timeoutResult stage) stage s)
  | finishOk (h : frameValid s.tpdShreg = true) :
      TickForm s (endAttempt .ok .none (writeTemperature (writeFrame s)))
  | finishBad (h : frameValid s.tpdShreg = false) : TickForm s (endAttempt .checksumMismatch .none (writeFrame s))

theorem hold_form (n : BitVec 16) (next : TpdState) (s : State) : TickForm s (hold n next s) := by
  rcases hold_cases n next s with ⟨-, e⟩ | ⟨-, e⟩ <;> rw [e]
  · exact .enter _
  · exact .count

theorem finish_form (s : State) : TickForm s (finish s) := by
  rcases finish_cases s with ⟨h, e⟩ | ⟨h, e⟩ <;> rw [e]
  · exact .finishOk h
  · exact .finishBad h

theorem wait_form (target : Level) (budget : BitVec 16) (next : WaitNext) (stage : TpdStage) (s : State) :
    TickForm s (wait target budget next stage s) := by
  rcases wait_cases target budget next stage s with ⟨-, st, -, e⟩ | ⟨-, -, e⟩ | ⟨-, -, e⟩ | ⟨-, -, e⟩ <;> rw [e]
  · exact .enter _
  · exact finish_form s
  · exact .timeout _
  · exact .count

theorem sampleAfterOffset_form (s : State) : TickForm s (sampleAfterOffset s) := by
  rcases sampleAfterOffset_cases s with ⟨-, e⟩ | ⟨-, e⟩ <;> rw [e]
  · exact .sample
  · exact .count

/-- Every tick has one of the forms, whatever the state (R102). -/
theorem tpdTick_form (s : State) : TickForm s (tpdTick s) := by
  cases h : s.tpdState
  · rw [tpdTick_idle h]; exact .idle h
  · rw [tpdTick_startLow h]; exact hold_form _ _ s
  · rw [tpdTick_release h]; exact hold_form _ _ s
  · rw [tpdTick_ack1 h]; exact wait_form _ _ _ _ s
  · rw [tpdTick_ack2 h]; exact wait_form _ _ _ _ s
  · rw [tpdTick_ack3 h]; exact wait_form _ _ _ _ s
  · rw [tpdTick_bitRise h]; exact wait_form _ _ _ _ s
  · rw [tpdTick_bitDelay h]; exact sampleAfterOffset_form s
  · rw [tpdTick_bitFall h]; exact wait_form _ _ _ _ s

/-- A tick leaves every field outside the TPD's alone (R126). -/
theorem tpdTick_frame (s : State) : SameQd s (tpdTick s) ∧ SameMenu s (tpdTick s) ∧ SameRest s (tpdTick s) := by
  have h := tpdTick_form s
  generalize tpdTick s = t at h
  cases h <;> exact ⟨⟨rfl, rfl, rfl, rfl⟩, ⟨rfl, rfl⟩, ⟨rfl, rfl, rfl, rfl, rfl, rfl⟩⟩

/-! ## The sample -/

/-- A sample leaves the TPD's fields, the inputs, the read data and the model's own fields alone (R126, R146). -/
theorem qdSample_frame (s : State) : SameTpd s (qdSample s) ∧ SameRest s (qdSample s) := by
  unfold qdSample
  split <;> exact ⟨⟨rfl, rfl, rfl, rfl, rfl, rfl, rfl, rfl, rfl, rfl, rfl, rfl⟩, ⟨rfl, rfl, rfl, rfl, rfl, rfl⟩⟩

@[simp] theorem qdSample_qdSnap (s : State) : (qdSample s).qdSnap = s.pins := rfl

@[simp] theorem qdSample_qdPrimed (s : State) : (qdSample s).qdPrimed = true := rfl

@[simp] theorem qdSample_qdLastRot (s : State) : (qdSample s).qdLastRot = sampledRotation s := rfl

@[simp] theorem qdSample_qdLastEdge (s : State) : (qdSample s).qdLastEdge = sampledEdge s := rfl

@[simp] theorem qdSample_menuIndex (s : State) : (qdSample s).menuIndex =
    BitVec.ofInt 8 (clamp (s.menuIndex.toNat + (sampledRotation s).delta) 0 s.params.max.toNat) := by
  simp only [qdSample, storeSample_menuIndex]; split <;> rfl

@[simp] theorem qdSample_menuPending (s : State) : (qdSample s).menuPending = (sampledEdge s || s.menuPending) := by
  simp only [qdSample, storeSample_menuPending]; split <;> simp_all

/-- A clamped value is in its range (42_menu.md R161). -/
theorem clamp_range (v hi : Int) (h : 0 ≤ hi) : 0 ≤ clamp v 0 hi ∧ clamp v 0 hi ≤ hi := by
  unfold clamp; split
  · omega
  · split <;> omega

/-! ## The host's accesses -/

/-- What a register read returns and changes: the read data, and the pending flag at MENU_CONSUME (20_memory.md R57). -/
theorem hostRead_cases (a : RegAddr) (s : State) :
    (a = 0x8 ∧ hostRead a s = returnData (readValue a s) (consumePendingAction s)) ∨
    (a ≠ 0x8 ∧ hostRead a s = returnData (readValue a s) s) := by
  by_cases h : a = 0x8
  · subst h; exact .inl ⟨rfl, rfl⟩
  · refine .inr ⟨h, ?_⟩
    have h8 : a.toNat ≠ 8 := fun e => h (BitVec.eq_of_toNat_eq e)
    simp only [hostRead]; congr 1
    unfold readEffect; split
    · exact absurd (by assumption) h8
    · rfl

/-- What a register write does: START when idle begins an attempt, every other write nothing (R53, R57). -/
theorem hostWrite_cases (a : RegAddr) (v : RegWord) (s : State) :
    (a = 0x0 ∧ startAccepted v s = true ∧ hostWrite a v s = startAttempt s) ∨
    ((a ≠ 0x0 ∨ startAccepted v s = false) ∧ hostWrite a v s = s) := by
  by_cases h : a = 0x0
  · subst h
    by_cases hs : startAccepted v s = true
    · exact .inl ⟨rfl, hs, by simp [hostWrite, hs]⟩
    · exact .inr ⟨.inr (by simpa using hs), by simp [hostWrite, hs]⟩
  · refine .inr ⟨.inl h, ?_⟩
    have h0 : a.toNat ≠ 0 := fun e => h (BitVec.eq_of_toNat_eq e)
    unfold hostWrite; split
    · exact absurd (by assumption) h0
    · rfl

end Sys2Proof.Machine
end

