-- ==== Sys2Proof/Laws/PerInstr.lean ====
section
/-! SUPPORT. The per-instruction family EncodesItsRow: the word of a well-formed instruction matches the pattern and mask
of its row of the opcode map (spec/30_encoding.md R76, R78). -/

namespace Sys2Proof.Laws.EncodesItsRow

/-- The encoded word selects the instruction's row. -/
def Statement (i : Instr) : Prop :=
  i.wellFormed = true → ∃ row, opcodeRows[i.row]? = some row ∧ row.selects (encode i) = true

/-- A write's data bits do not matter to a row whose mask leaves them out. -/
theorem hwWord_selects {row : OpcodeRow} (hm : row.mask.extractLsb' 0 16 = 0) (a : RegAddr) (v : RegWord)
    (h : row.selects (hwWord a 0) = true) : row.selects (hwWord a v) = true := by
  have low : ∀ i : Nat, i < 16 → row.mask.getLsbD i = false := by
    intro i hi
    have := congrArg (fun b => b.getLsbD i) hm
    simpa [BitVec.getLsbD_extractLsb', hi] using this
  have same : hwWord a v &&& row.mask = hwWord a 0 &&& row.mask := by
    apply BitVec.eq_of_getLsbD_eq
    intro i hi
    simp only [BitVec.getLsbD_and]
    by_cases h16 : i < 16
    · simp [low i h16]
    · simp only [hwWord, BitVec.getLsbD_append, h16, if_false]
  simpa [OpcodeRow.selects, same] using h

theorem rdCtrl : Statement .rdCtrl := fun _ => ⟨_, rfl, by decide⟩

theorem rdTpdStatus : Statement .rdTpdStatus := fun _ => ⟨_, rfl, by decide⟩

theorem rdFrameHum : Statement .rdFrameHum := fun _ => ⟨_, rfl, by decide⟩

theorem rdFrameTemp : Statement .rdFrameTemp := fun _ => ⟨_, rfl, by decide⟩

theorem rdFrameCsum : Statement .rdFrameCsum := fun _ => ⟨_, rfl, by decide⟩

theorem rdTempSigned : Statement .rdTempSigned := fun _ => ⟨_, rfl, by decide⟩

theorem rdQdStatus : Statement .rdQdStatus := fun _ => ⟨_, rfl, by decide⟩

theorem rdMenuState : Statement .rdMenuState := fun _ => ⟨_, rfl, by decide⟩

theorem rdMenuConsume : Statement .rdMenuConsume := fun _ => ⟨_, rfl, by decide⟩

theorem rdRsvd9 : Statement .rdRsvd9 := fun _ => ⟨_, rfl, by decide⟩

theorem rdRsvdAB (addr : RegAddr) : Statement (.rdRsvdAB addr) := fun h => ⟨_, rfl, by revert addr; decide⟩

theorem rdRsvdCF (addr : RegAddr) : Statement (.rdRsvdCF addr) := fun h => ⟨_, rfl, by revert addr; decide⟩

theorem wrCtrl (wdata : RegWord) : Statement (.wrCtrl wdata) := fun _ => ⟨_, rfl, hwWord_selects rfl _ _ rfl⟩

theorem wrIgnored1 (wdata : RegWord) : Statement (.wrIgnored1 wdata) := fun _ => ⟨_, rfl, hwWord_selects rfl _ _ rfl⟩

theorem wrIgnored23 (addr : RegAddr) (wdata : RegWord) : Statement (.wrIgnored23 addr wdata) := fun h =>
  ⟨_, rfl, hwWord_selects rfl _ _ (by simp only [Instr.wellFormed] at h; revert addr; decide)⟩

theorem wrIgnored47 (addr : RegAddr) (wdata : RegWord) : Statement (.wrIgnored47 addr wdata) := fun h =>
  ⟨_, rfl, hwWord_selects rfl _ _ (by simp only [Instr.wellFormed] at h; revert addr; decide)⟩

theorem wrIgnored8F (addr : RegAddr) (wdata : RegWord) : Statement (.wrIgnored8F addr wdata) := fun h =>
  ⟨_, rfl, hwWord_selects rfl _ _ (by simp only [Instr.wellFormed] at h; revert addr; decide)⟩

theorem evNop : Statement .evNop := fun _ => ⟨_, rfl, by decide⟩

theorem evUs : Statement .evUs := fun _ => ⟨_, rfl, by decide⟩

theorem evQd : Statement .evQd := fun _ => ⟨_, rfl, by decide⟩

theorem evUsQd : Statement .evUsQd := fun _ => ⟨_, rfl, by decide⟩

theorem evRst (dontCare : BitVec 2) : Statement (.evRst dontCare) := fun _ => ⟨_, rfl, by revert dontCare; decide⟩

end Sys2Proof.Laws.EncodesItsRow
end

