-- ==== Sys2Proof/Laws/Step.lean ====
section
/-! SUPPORT. What `exec`, a cycle and a step can answer, once. -/

namespace Sys2Proof.Machine

/-! ## exec, arm by arm -/

@[simp] theorem exec_rdCtrl (s : State) : exec .rdCtrl s = .next (hostRead 0x0 s) := rfl
@[simp] theorem exec_rdTpdStatus (s : State) : exec .rdTpdStatus s = .next (hostRead 0x1 s) := rfl
@[simp] theorem exec_rdFrameHum (s : State) : exec .rdFrameHum s = .next (hostRead 0x2 s) := rfl
@[simp] theorem exec_rdFrameTemp (s : State) : exec .rdFrameTemp s = .next (hostRead 0x3 s) := rfl
@[simp] theorem exec_rdFrameCsum (s : State) : exec .rdFrameCsum s = .next (hostRead 0x4 s) := rfl
@[simp] theorem exec_rdTempSigned (s : State) : exec .rdTempSigned s = .next (hostRead 0x5 s) := rfl
@[simp] theorem exec_rdQdStatus (s : State) : exec .rdQdStatus s = .next (hostRead 0x6 s) := rfl
@[simp] theorem exec_rdMenuState (s : State) : exec .rdMenuState s = .next (hostRead 0x7 s) := rfl
@[simp] theorem exec_rdMenuConsume (s : State) : exec .rdMenuConsume s = .next (hostRead 0x8 s) := rfl
@[simp] theorem exec_rdRsvd9 (s : State) : exec .rdRsvd9 s = .next (hostRead 0x9 s) := rfl
@[simp] theorem exec_rdRsvdAB (a : RegAddr) (s : State) : exec (.rdRsvdAB a) s = .next (hostRead a s) := rfl
@[simp] theorem exec_rdRsvdCF (a : RegAddr) (s : State) : exec (.rdRsvdCF a) s = .next (hostRead a s) := rfl
@[simp] theorem exec_wrCtrl (v : RegWord) (s : State) : exec (.wrCtrl v) s = .next (hostWrite 0x0 v s) := rfl
@[simp] theorem exec_wrIgnored1 (v : RegWord) (s : State) : exec (.wrIgnored1 v) s = .next (hostWrite 0x1 v s) := rfl
@[simp] theorem exec_wrIgnored23 (a : RegAddr) (v : RegWord) (s : State) :
    exec (.wrIgnored23 a v) s = .next (hostWrite a v s) := rfl
@[simp] theorem exec_wrIgnored47 (a : RegAddr) (v : RegWord) (s : State) :
    exec (.wrIgnored47 a v) s = .next (hostWrite a v s) := rfl
@[simp] theorem exec_wrIgnored8F (a : RegAddr) (v : RegWord) (s : State) :
    exec (.wrIgnored8F a v) s = .next (hostWrite a v s) := rfl
@[simp] theorem exec_evNop (s : State) : exec .evNop s = .next s := rfl
@[simp] theorem exec_evUs (s : State) : exec .evUs s = .next (tpdTick s) := rfl
@[simp] theorem exec_evQd (s : State) : exec .evQd s = .next (qdSample s) := rfl
@[simp] theorem exec_evUsQd (s : State) : exec .evUsQd s = .next (tpdTick (qdSample s)) := rfl
@[simp] theorem exec_evRst (d : BitVec 2) (s : State) : exec (.evRst d) s = .next (resetState s) := rfl

/-- Every instruction answers a next state: no host transaction fails and no event faults (60_exceptions.md R219). -/
theorem exec_answers_next (i : Instr) (s : State) : ∃ t, exec i s = .next t := by
  cases i <;> exact ⟨_, rfl⟩

/-! ## Fetching a cycle -/

theorem fetchEvent_ok {w : StimulusWord} {i : Instr} (h : fetchEvent w = .ok i) :
    decode w = .instr i ∧ isEvent i = true := by
  unfold fetchEvent at h
  split at h
  · cases h
  · split at h
    · cases h; exact ⟨by assumption, by assumption⟩
    · cases h

theorem fetchHost_ok {w : StimulusWord} {i : Instr} (h : fetchHost w = .ok i) :
    decode w = .instr i ∧ isEvent i = false := by
  unfold fetchHost at h
  split at h
  · cases h
  · split at h
    · cases h
    · next hn => cases h; exact ⟨by assumption, by simpa using hn⟩

theorem fetchEvent_of_decode {w : StimulusWord} {i : Instr} (h : decode w = .instr i) (he : isEvent i = true) :
    fetchEvent w = .ok i := by simp [fetchEvent, h, he]

theorem fetchHost_of_decode {w : StimulusWord} {i : Instr} (h : decode w = .instr i) (he : isEvent i = false) :
    fetchHost w = .ok i := by simp [fetchHost, h, he]

/-- A record that is fetched holds one event and at most one host transaction (30_encoding.md R74). -/
theorem fetch_ok {r : CycleRecord} {c : Cycle} (h : fetch r = .ok c) :
    (decode r.ev = .instr c.ev ∧ isEvent c.ev = true) ∧
    ((r.host = none ∧ c.host = none) ∨
      ∃ w i, r.host = some w ∧ c.host = some i ∧ decode w = .instr i ∧ isEvent i = false) := by
  unfold fetch at h
  split at h
  · next hh =>
    split at h
    · cases h
    · next e he => cases h; exact ⟨fetchEvent_ok he, .inl ⟨hh, rfl⟩⟩
  · next w hh =>
    split at h
    · cases h
    · next i hi =>
      split at h
      · cases h
      · next e he =>
        cases h
        exact ⟨fetchEvent_ok he, .inr ⟨w, i, hh, rfl, fetchHost_ok hi⟩⟩

/-- A record of port levels is always fetched (30_encoding.md R85). -/
theorem fetch_recordOfInputs (c : CycleInputs) : ∃ y, fetch (recordOfInputs c) = .ok y := by
  have he : fetchEvent (recordOfInputs c).ev =
      .ok (decodeEvent (BitVec.ofBool c.rst ++ BitVec.ofBool c.qdTick ++ BitVec.ofBool c.usTick)) := by
    refine fetchEvent_of_decode (decode_evWord _) ?_
    cases c.rst <;> cases c.qdTick <;> cases c.usTick <;> decide
  have hr : ∀ a : RegAddr, isEvent (decodeRead a) = false := by decide
  have hw : ∀ (a : RegAddr) (v : RegWord), isEvent (decodeWrite a v) = false := by
    rintro ⟨⟨n, hn⟩⟩ v; interval_cases n <;> rfl
  unfold fetch
  split
  · simp [he]
  · next w hh =>
    have hw' : ∃ i, fetchHost w = .ok i := by
      simp only [recordOfInputs] at hh
      split at hh
      · cases hh
        split
        · exact ⟨_, fetchHost_of_decode (decode_hwWord _ _) (hw _ _)⟩
        · exact ⟨_, fetchHost_of_decode (decode_hrWord _) (hr _)⟩
      · cases hh
    obtain ⟨i, hi⟩ := hw'
    simp [hi, he]

/-! ## A cycle and a step -/

/-- Everything a cycle can do: the event alone, or the host transaction and then the event, with its tick dropped after an
accepted START (43_host_bus.md R200, R201). -/
theorem runCycle_cases (c : Cycle) (s : State) :
    ((c.host = none ∨ isReset c.ev = true) ∧ runCycle c s = exec c.ev s) ∨
    (∃ h t, c.host = some h ∧ isReset c.ev = false ∧ exec h s = .next t ∧
      runCycle c s = exec (if acceptsStart h s then dropTick c.ev else c.ev) t) := by
  unfold runCycle
  split
  · next hh => exact .inl ⟨.inl hh, rfl⟩
  · next h hh =>
    by_cases hr : isReset c.ev = true
    · exact .inl ⟨.inr hr, by simp [hr]⟩
    · obtain ⟨t, ht⟩ := exec_answers_next h s
      exact .inr ⟨h, t, hh, by simpa using hr, ht, by simp [hr, ht]⟩

/-- A step that answers a next state ran the cycle that the next record decodes to. -/
theorem step_next {s t : State} (h : step s = .next t) :
    ∃ c, fetch s.nextRecord = .ok c ∧
      runCycle c (beginCycle s.nextRecord.line s.nextRecord.pins s.stimulus.tail s) = .next t := by
  unfold step stepCycle at h
  split at h
  · cases h
  · next c hc => exact ⟨c, hc, h⟩

/-- A step runs the cycle its record decodes to. -/
theorem step_of_fetch {s : State} {c : Cycle} (h : fetch s.nextRecord = .ok c) :
    step s = runCycle c (beginCycle s.nextRecord.line s.nextRecord.pins s.stimulus.tail s) := by
  unfold step stepCycle; rw [h]

end Sys2Proof.Machine
end

