-- ==== Sys2Proof/Tests/Slice0.lean ====
section
/-! SUPPORT. Tests. The expected values are those of spec/95_test_vectors.md (T, Q, M, H, E and X rows), or are written out by
hand from the rule named. A theorem `witness_<Name>` shows that the hypotheses of the statement of that name can be met
together, clause by clause. -/

namespace Sys2Proof.Machine.Tests

/-! ## Helpers -/

/-- The parameters of the vectors: T_START_LOW 3000, T_RELEASE 30, ACK_BUDGET 4, BIT_BUDGET 5, SAMPLE_OFFSET 3, MAX 2. -/
def vectorParams : Params :=
  { tStartLow := 3000, tRelease := 30, ackBudget := 4, bitBudget := 5, sampleOffset := 3, max := 2 }

/-- The reset state with those parameters. -/
def base : State := { State.reset with params := vectorParams }

/-- The next state, if the outcome is one. -/
def answer (o : Host.Outcome State Fault Refusal) : Option State :=
  match o with
  | .next t => some t
  | .fault _ => none
  | .refused _ => none

/-- The read data after an instruction, if it completes. -/
def readBy (i : Instr) (s : State) : Option RegWord := (answer (exec i s)).bind (·.busRdata)

/-- The refusal, if the outcome is one. -/
def refusal (o : Host.Outcome State Fault Refusal) : Option Refusal :=
  match o with
  | .next _ => none
  | .fault _ => none
  | .refused r => some r

theorem next_of_answer {o : Host.Outcome State Fault Refusal} {t : State} (h : answer o = some t) : o = .next t := by
  cases o <;> simp_all [answer]

/-- One cycle record queued in front. -/
def queued (host : Option StimulusWord) (ev : StimulusWord) (line : Level) (pins : Snapshot) (s : State) : State :=
  { s with stimulus := { host := host, ev := ev, line := line, pins := pins } :: s.stimulus }

/-- The fields of the outcome of an attempt. -/
def outcome (s : State) : TpdState × Bool × TpdResult × TpdStage := (s.tpdState, s.tpdDone, s.tpdResult, s.tpdStage)

/-! ## Well-formedness: each check refuses an ill-formed term -/

theorem test_wellFormed_refuses_rdRsvdAB : (Instr.rdRsvdAB 0xC).wellFormed = false := by decide
theorem test_wellFormed_refuses_rdRsvdCF : (Instr.rdRsvdCF 0x9).wellFormed = false := by decide
theorem test_wellFormed_refuses_wrIgnored23 : (Instr.wrIgnored23 0x5 0x1234).wellFormed = false := by decide
theorem test_wellFormed_refuses_wrIgnored47 : (Instr.wrIgnored47 0x8 0x1234).wellFormed = false := by decide
theorem test_wellFormed_refuses_wrIgnored8F : (Instr.wrIgnored8F 0x1 0x1234).wellFormed = false := by decide

/-! ## Decoding: a word of every row, written out field by field from R71 to R73 and R78 -/

theorem test_decode_rdCtrl : decode 0b00_00_0000_0000000000000000 = .instr .rdCtrl := by decide
theorem test_decode_rdTpdStatus : decode 0b00_00_0001_0000000000000000 = .instr .rdTpdStatus := by decide
theorem test_decode_rdFrameHum : decode 0b00_00_0010_0000000000000000 = .instr .rdFrameHum := by decide
theorem test_decode_rdFrameTemp : decode 0b00_00_0011_0000000000000000 = .instr .rdFrameTemp := by decide
theorem test_decode_rdFrameCsum : decode 0b00_00_0100_0000000000000000 = .instr .rdFrameCsum := by decide
theorem test_decode_rdTempSigned : decode 0b00_00_0101_0000000000000000 = .instr .rdTempSigned := by decide
theorem test_decode_rdQdStatus : decode 0b00_00_0110_0000000000000000 = .instr .rdQdStatus := by decide
theorem test_decode_rdMenuState : decode 0b00_00_0111_0000000000000000 = .instr .rdMenuState := by decide
theorem test_decode_rdMenuConsume : decode 0b00_00_1000_0000000000000000 = .instr .rdMenuConsume := by decide
theorem test_decode_rdRsvd9 : decode 0b00_00_1001_0000000000000000 = .instr .rdRsvd9 := by decide
theorem test_decode_rdRsvdAB : decode 0b00_00_1011_0000000000000000 = .instr (.rdRsvdAB 0xB) := by decide
theorem test_decode_rdRsvdCF : decode 0b00_00_1100_0000000000000000 = .instr (.rdRsvdCF 0xC) := by decide
theorem test_decode_wrCtrl : decode 0b01_00_0000_0000000000000001 = .instr (.wrCtrl 0x0001) := by decide
theorem test_decode_wrIgnored1 : decode 0b01_00_0001_1000000000000010 = .instr (.wrIgnored1 0x8002) := by decide
theorem test_decode_wrIgnored23 : decode 0b01_00_0011_0000000100100011 = .instr (.wrIgnored23 0x3 0x0123) := by decide
theorem test_decode_wrIgnored47 : decode 0b01_00_0110_0001001000110100 = .instr (.wrIgnored47 0x6 0x1234) := by decide
theorem test_decode_wrIgnored8F : decode 0b01_00_1111_0001001000110100 = .instr (.wrIgnored8F 0xF 0x1234) := by decide
theorem test_decode_evNop : decode 0b10_0000000000000000000_000 = .instr .evNop := by decide
theorem test_decode_evUs : decode 0b10_0000000000000000000_001 = .instr .evUs := by decide
theorem test_decode_evQd : decode 0b10_0000000000000000000_010 = .instr .evQd := by decide
theorem test_decode_evUsQd : decode 0b10_0000000000000000000_011 = .instr .evUsQd := by decide
theorem test_decode_evRst : decode 0b10_0000000000000000000_110 = .instr (.evRst 0b10) := by decide

/-- The table's numbering is the word's own; a number of more than 24 bits is no stimulus word (R70, R81). -/
theorem test_decodeTableWord : decodeTableWord 24 0x400001 = some (.wrCtrl 0x0001) ∧
    decodeTableWord 24 0xC00000 = none ∧ decodeTableWord 24 0x1000000 = none := by decide

/-! ## One instruction, one step -/

/-- H1. -/
theorem test_rdCtrl : readBy .rdCtrl { base with tpdState := .ack1 } = some 0x0000 := by decide

/-- H9. -/
theorem test_rdTpdStatus_busy :
    readBy .rdTpdStatus { base with tpdState := .bitDelay, tpdBitcnt := 39 } = some 0x2701 := by decide

/-- H8. -/
theorem test_rdTpdStatus_timeout :
    readBy .rdTpdStatus
      { base with tpdDone := true, tpdResult := .bitTimeout, tpdStage := .bitFall, tpdBitcnt := 40 } = some 0x28AE := by
  decide

/-- P3, the read of cycle 6695. -/
theorem test_rdFrameHum : readBy .rdFrameHum { base with frameHum := 0x025C, frameTemp := 0x8032 } = some 0x025C := by
  decide

/-- P3, the read of cycle 6696. -/
theorem test_rdFrameTemp : readBy .rdFrameTemp { base with frameHum := 0x025C, frameTemp := 0x8032 } = some 0x8032 := by
  decide

/-- T24: the computed checksum is the high byte. -/
theorem test_rdFrameCsum : readBy .rdFrameCsum { base with frameCalcCsum := 0x11, frameRxCsum := 0x10 } = some 0x1110 := by
  decide

/-- P3, the read of cycle 6698. -/
theorem test_rdTempSigned :
    readBy .rdTempSigned { base with frameTemp := 0x8032, tempSigned := 0xFFCE } = some 0xFFCE := by decide

/-- Q15. -/
theorem test_rdQdStatus :
    readBy .rdQdStatus { base with qdSnap := 0b0101, qdPrimed := true, qdLastRot := .minus, qdLastEdge := true }
      = some 0x00F5 := by decide

/-- M9: no side effect. -/
theorem test_rdMenuState :
    answer (exec .rdMenuState { base with menuIndex := 1, menuPending := true })
      = some { base with menuIndex := 1, menuPending := true, busRdata := some 0x0101 } := by decide

/-- M7. -/
theorem test_rdMenuConsume :
    answer (exec .rdMenuConsume { base with menuIndex := 2, menuPending := true })
      = some { base with menuIndex := 2, menuPending := false, busRdata := some 0x0102 } := by decide

/-- H10, at 0x9. -/
theorem test_rdRsvd9 : readBy .rdRsvd9 { base with menuIndex := 2, menuPending := true } = some 0x0000 := by decide

/-- H10, at 0xA. -/
theorem test_rdRsvdAB : readBy (.rdRsvdAB 0xA) { base with menuIndex := 2, menuPending := true } = some 0x0000 := by decide

/-- H10, at 0xF. -/
theorem test_rdRsvdCF : readBy (.rdRsvdCF 0xF) { base with menuIndex := 2, menuPending := true } = some 0x0000 := by decide

/-- T25 without its tick: the last attempt's fields are cleared. -/
theorem test_wrCtrl_start :
    answer (exec (.wrCtrl 0x0001)
      { base with tpdDone := true, tpdResult := .ok, tpdBitcnt := 40, tpdShreg := 0x025C803210, frameHum := 0x025C })
      = some { base with tpdState := .startLow } := by decide

/-- T28. -/
theorem test_wrCtrl_no_start : answer (exec (.wrCtrl 0xFFFE) base) = some base := by decide

/-- R192 at 0x1. -/
theorem test_wrIgnored1 : answer (exec (.wrIgnored1 0x0001) base) = some base := by decide

/-- R192 at 0x2. -/
theorem test_wrIgnored23 : answer (exec (.wrIgnored23 0x2 0xFFFF) base) = some base := by decide

/-- H11: a write of MENU_STATE. -/
theorem test_wrIgnored47 : answer (exec (.wrIgnored47 0x7 0x0002) base) = some base := by decide

/-- M13: a write does not consume. -/
theorem test_wrIgnored8F :
    answer (exec (.wrIgnored8F 0x8 0x0000) { base with menuIndex := 1, menuPending := true })
      = some { base with menuIndex := 1, menuPending := true } := by decide

/-- R193. -/
theorem test_evNop : answer (exec .evNop { base with tpdState := .ack2, tpdCnt := 3 })
    = some { base with tpdState := .ack2, tpdCnt := 3 } := by decide

/-- T14: the last tick of BIT_DELAY samples the line. -/
theorem test_evUs_samples :
    answer (exec .evUs { base with tpdState := .bitDelay, tpdCnt := 2, tpdShreg := 0x0000000001, line := true })
      = some { base with tpdState := .bitFall, tpdShreg := 0x0000000003, tpdBitcnt := 1, line := true } := by decide

/-- T18: the tick that ends the attempt. -/
theorem test_evUs_finishes :
    answer (exec .evUs { base with tpdState := .bitFall, tpdBitcnt := 40, tpdShreg := 0x025C803210 })
      = some { base with
          tpdBitcnt := 40, tpdShreg := 0x025C803210, tpdDone := true, tpdResult := .ok, frameHum := 0x025C
          frameTemp := 0x8032, frameRxCsum := 0x10, frameCalcCsum := 0x10, tempSigned := 0xFFCE } := by decide

/-- Q14. -/
theorem test_evQd_plus_and_edge :
    answer (exec .evQd { base with qdPrimed := true, pins := 0b0111 })
      = some { base with
          qdPrimed := true, pins := 0b0111, qdSnap := 0b0111, qdLastRot := .plus, qdLastEdge := true, menuIndex := 1
          menuPending := true } := by decide

/-- Q16: phaseA rises with phaseB low, and the switch is ignored. -/
theorem test_evQd_minus :
    answer (exec .evQd { base with qdPrimed := true, qdSnap := 0b1110, pins := 0b1001, menuIndex := 2 })
      = some { base with
          qdPrimed := true, qdSnap := 0b1001, pins := 0b1001, qdLastRot := .minus, menuIndex := 1 } := by decide

/-- T2 and Q18 in one cycle: the counter counts, and +1 is clamped at MAX. -/
theorem test_evUsQd :
    answer (exec .evUsQd { base with
        tpdState := .startLow, qdPrimed := true, qdSnap := 0b0010, pins := 0b0011, menuIndex := 2 })
      = some { base with
          tpdState := .startLow, tpdCnt := 1, qdPrimed := true, qdSnap := 0b0011, pins := 0b0011, qdLastRot := .plus
          menuIndex := 2 } := by decide

/-- X1. -/
theorem test_evRst :
    answer (exec (.evRst 0b01) { base with tpdState := .bitFall, menuIndex := 2, menuPending := true }) = some base := by
  decide

/-! ## One cycle -/

/-- T25: an accepted START drops the tick. -/
theorem test_step_start_and_tick :
    (answer (step (queued (some 0x400001) 0x800001 false 0 base))).map (fun t => (t.tpdState, t.tpdCnt))
      = some (.startLow, 0) := by decide

/-- M11: an edge and a consume in one cycle. -/
theorem test_step_edge_and_consume :
    (answer (step (queued (some 0x080000) 0x800002 false 0b0100 { base with qdPrimed := true, menuPending := true }))).map
      (fun t => (t.busRdata, t.menuPending)) = some (some 0x0100, true) := by decide

/-- H13: the read shows the state before the tick that ends the attempt. -/
theorem test_step_read_and_finish :
    (answer (step (queued (some 0x010000) 0x800001 false 0
      { base with tpdState := .bitFall, tpdBitcnt := 40, tpdShreg := 0x025C803210 }))).map
        (fun t => (t.busRdata, outcome t)) = some (some 0x2801, .idle, true, .ok, .none) := by decide

/-- X3: reset wins over a START. -/
theorem test_step_reset_and_start :
    (answer (step (queued (some 0x400001) 0x800004 true 0 base))).map (fun t => (outcome t, t.busRdata))
      = some ((.idle, false, .none, .none), some 0) := by decide

/-- E12 in a record: refused by name (R220). -/
theorem test_step_refuses_reserved :
    refusal (step (queued (some 0x500000) 0x800000 true 0 base)) = some (.reservedWord .hostZeroField) := by decide

/-- The word placed where the next step takes it is the one that runs, from the reset state itself. -/
theorem test_withFetchWord :
    (answer (step (State.reset.withFetchWord 24 0x400001))).map (·.tpdState) = some .startLow := by decide

/-- Cycle 10 of P2 and a `usn` line assemble to the words the rules give (R82 to R84). -/
theorem test_assemble :
    assemble [.cycle { host := some (.rd 0x8), ev := some .qd, dq := some true, enc := some 0b0100 }, .usn 2 false] =
      some [{ host := some 0x080000, ev := 0x800002, line := true, pins := 0b0100 },
        { host := none, ev := 0x800001, line := false, pins := 0b0100 },
        { host := none, ev := 0x800001, line := false, pins := 0b0100 }] := by decide

/-! ## Witnesses: the hypotheses of each statement, met together, clause by clause -/

/-- Both ends of every address range. -/
theorem witness_DecodeOfEncodeIsTheInstruction :
    (Instr.rdRsvdAB 0xA).wellFormed = true ∧ (Instr.rdRsvdAB 0xB).wellFormed = true ∧
    (Instr.rdRsvdCF 0xC).wellFormed = true ∧ (Instr.rdRsvdCF 0xF).wellFormed = true ∧
    (Instr.wrIgnored23 0x2 0).wellFormed = true ∧ (Instr.wrIgnored23 0x3 0xFFFF).wellFormed = true ∧
    (Instr.wrIgnored47 0x4 0).wellFormed = true ∧ (Instr.wrIgnored47 0x7 0xFFFF).wellFormed = true ∧
    (Instr.wrIgnored8F 0x8 0).wellFormed = true ∧ (Instr.wrIgnored8F 0xF 0xFFFF).wellFormed = true ∧
    (Instr.evRst 0b11).wellFormed = true := by decide

theorem witness_DecodedWordReencodesToItself : ∃ (w : StimulusWord) (i : Instr), decode w = .instr i :=
  ⟨0x4F1234, .wrIgnored8F 0xF 0x1234, by decide⟩

theorem witness_DecoderAgreesWithOpcodeMap :
    (∃ (w : StimulusWord) (i : Instr) (k : Nat) (row : OpcodeRow), decode w = .instr i ∧ opcodeRows[k]? = some row) ∧
    (∃ (w : StimulusWord) (why : ReservedCase) (row : OpcodeRow), decode w = .reserved why ∧ row ∈ opcodeRows) :=
  ⟨⟨0x800007, .evRst 0b11, 21, ⟨"EV.RST", 0x800004, 0xFFFFFC⟩, by decide, rfl⟩,
    ⟨0xC00000, .kind, ⟨"EV.NOP", 0x800000, 0xFFFFFF⟩, by decide, by decide⟩⟩

/-- A word of each case of R79, and one of none. -/
theorem witness_ReservedWordsAreExactlyThoseListed :
    ReservedWord 0xC00000 ∧ ReservedWord 0x100000 ∧ ReservedWord 0x500000 ∧ ReservedWord 0x000001 ∧
    ReservedWord 0x800008 ∧ ¬ ReservedWord 0x800007 := by
  unfold ReservedWord; decide

theorem witness_StepRefusesReservedWords :
    (∃ (s : State) (w : StimulusWord), ReservedWord w ∧ s.nextRecord.host = some w) ∧
    (∃ (s : State) (w : StimulusWord), ReservedWord w ∧ s.nextRecord.ev = w) :=
  ⟨⟨queued (some 0x000001) 0x800001 true 0 base, 0x000001, by unfold ReservedWord; decide, rfl⟩,
    ⟨queued none 0x800008 true 0 base, 0x800008, by unfold ReservedWord; decide, rfl⟩⟩

/-- The port levels of P2's cycle 10, and those of a write and of an empty cycle. -/
theorem witness_PortLevelsAreALegalRecord :
    (∃ p : CycleInputs, p.busSel = true ∧ p.busWe = false ∧ p.rst = false) ∧
    (∃ p : CycleInputs, p.busSel = true ∧ p.busWe = true ∧ p.rst = false) ∧
    (∃ p : CycleInputs, p.busSel = false ∧ p.rst = true) :=
  ⟨⟨⟨false, false, true, true, false, 0x8, 0, true, 0b0100⟩, rfl, rfl, rfl⟩,
    ⟨⟨false, true, false, true, true, 0x0, 0x0001, false, 0⟩, rfl, rfl, rfl⟩,
    ⟨⟨true, true, true, false, false, 0, 0, false, 0⟩, rfl, rfl⟩⟩

theorem witness_StepRunsTheDecodedInstruction :
    (∃ (s : State) (i : Instr), s.nextRecord.host = none ∧ decode s.nextRecord.ev = .instr i ∧ isEvent i = true) ∧
    (∃ (s : State) (w : StimulusWord) (i : Instr), s.nextRecord.host = some w ∧ s.nextRecord.ev = 0x800000 ∧
      decode w = .instr i ∧ isEvent i = false) ∧
    (∃ (w : StimulusWord) (i : Instr), decode w = .instr i) :=
  ⟨⟨queued none 0x800003 true 0 base, .evUsQd, rfl, by decide, rfl⟩,
    ⟨queued (some 0x080000) 0x800000 true 0 base, 0x080000, .rdMenuConsume, rfl, rfl, by decide, rfl⟩,
    ⟨0x400001, .wrCtrl 0x0001, by decide⟩⟩

theorem witness_StepIsTheWholeCycle : ∃ (s : State) (c : Cycle), fetch s.nextRecord = .ok c :=
  ⟨queued (some 0x400001) 0x800003 false 0b0111 base, ⟨some (.wrCtrl 0x0001), .evUsQd⟩, rfl⟩

theorem witness_StepCompletesOnEveryLegalRecord :
    (∃ (s : State) (c : Cycle), fetch s.nextRecord = .ok c) ∧ (∃ s : State, s.stimulus = []) :=
  ⟨⟨queued none 0x800000 false 0 base, ⟨none, .evNop⟩, rfl⟩, ⟨State.reset, rfl⟩⟩

theorem witness_StepKeepsParametersAndTakesOneRecord : ∃ s t : State, step s = .next t :=
  ⟨queued none 0x800001 true 0b0010 base, _, rfl⟩

theorem witness_ReadDataIsOfThePreCycleState :
    (∃ (s : State) (c : Cycle), fetch s.nextRecord = .ok c ∧ c.hasReset = true) ∧
    (∃ (s : State) (c : Cycle), fetch s.nextRecord = .ok c ∧ c.hasReset = false ∧ c.readAddr = none) ∧
    (∃ (s : State) (c : Cycle) (a : RegAddr), fetch s.nextRecord = .ok c ∧ c.hasReset = false ∧ c.readAddr = some a) :=
  ⟨⟨queued (some 0x070000) 0x800004 true 0 base, ⟨some .rdMenuState, .evRst 0⟩, rfl, rfl⟩,
    ⟨queued (some 0x400001) 0x800001 true 0 base, ⟨some (.wrCtrl 1), .evUs⟩, rfl, rfl, rfl⟩,
    ⟨queued (some 0x0F0000) 0x800003 true 0 base, ⟨some (.rdRsvdCF 0xF), .evUsQd⟩, 0xF, rfl, rfl, rfl⟩⟩

theorem witness_ResetWinsOverTheWholeCycle :
    ∃ (s : State) (c : Cycle), fetch s.nextRecord = .ok c ∧ c.hasReset = true :=
  ⟨queued (some 0x400001) 0x800007 true 0b1111 { base with tpdState := .ack1, menuIndex := 2 },
    ⟨some (.wrCtrl 1), .evRst 0b11⟩, rfl, rfl⟩

/-- M10, T25 and T27. -/
theorem witness_CollisionsResolveAsTheSpecSays :
    (∃ (s : State) (c : Cycle), fetch s.nextRecord = .ok c ∧ c.host = some .rdMenuConsume ∧ c.hasSample = true ∧
      s.qdPrimed = true ∧ s.qdSnap.getLsbD 2 = false ∧ s.nextRecord.pins.getLsbD 2 = true) ∧
    (∃ (s : State) (c : Cycle) (v : RegWord), fetch s.nextRecord = .ok c ∧ c.host = some (.wrCtrl v) ∧
      v.getLsbD 0 = true ∧ s.tpdState = .idle ∧ c.hasReset = false) ∧
    (∃ (s : State) (c : Cycle) (v : RegWord), fetch s.nextRecord = .ok c ∧ c.host = some (.wrCtrl v) ∧
      s.tpdState ≠ .idle ∧ c.hasReset = false) :=
  ⟨⟨queued (some 0x080000) 0x800002 true 0b0100 { base with qdPrimed := true }, ⟨some .rdMenuConsume, .evQd⟩,
      rfl, rfl, rfl, rfl, rfl, rfl⟩,
    ⟨queued (some 0x400001) 0x800001 true 0 base, ⟨some (.wrCtrl 1), .evUs⟩, 1, rfl, rfl, rfl, rfl, rfl⟩,
    ⟨queued (some 0x400001) 0x800001 false 0 { base with tpdState := .bitFall, tpdBitcnt := 40 },
      ⟨some (.wrCtrl 1), .evUs⟩, 1, rfl, rfl, by decide, rfl⟩⟩

/-- Both ends of the two address ranges. -/
theorem witness_PlainReadsReturnTheirField :
    (0xA ≤ (0xA : RegAddr).toNat ∧ (0xA : RegAddr).toNat ≤ 0xB) ∧
    (0xA ≤ (0xB : RegAddr).toNat ∧ (0xB : RegAddr).toNat ≤ 0xB) ∧
    (0xC ≤ (0xC : RegAddr).toNat ∧ (0xC : RegAddr).toNat ≤ 0xF) ∧
    (0xC ≤ (0xF : RegAddr).toNat ∧ (0xF : RegAddr).toNat ≤ 0xF) := by decide

theorem witness_ReservedAddressesReadZeroIgnoreWrites :
    0x9 ≤ (0x9 : RegAddr).toNat ∧ 0x9 ≤ (0xF : RegAddr).toNat := by decide

/-- Both ends of the three address ranges. -/
theorem witness_IgnoredWritesChangeNothing :
    (0x2 ≤ (0x2 : RegAddr).toNat ∧ (0x3 : RegAddr).toNat ≤ 0x3) ∧
    (0x4 ≤ (0x4 : RegAddr).toNat ∧ (0x7 : RegAddr).toNat ≤ 0x7) ∧
    (0x8 ≤ (0x8 : RegAddr).toNat ∧ (0xF : RegAddr).toNat ≤ 0xF) := by decide

/-- START accepted, START not set, and START while busy. -/
theorem witness_StartBeginsAFreshAttempt :
    (∃ (s : State) (v : RegWord), v.getLsbD 0 = true ∧ s.tpdState = .idle) ∧
    (∃ v : RegWord, v.getLsbD 0 = false) ∧ (∃ s : State, s.tpdState ≠ .idle) :=
  ⟨⟨base, 0xFFFF, by decide, rfl⟩, ⟨0xFFFE, by decide⟩, ⟨{ base with tpdState := .startLow }, by decide⟩⟩

/-- The neighbours of the one address with a side effect. -/
theorem witness_SideEffectFreeReadsRepeat : (0x7 : RegAddr) ≠ 0x8 ∧ (0x9 : RegAddr) ≠ 0x8 := by decide

theorem witness_EmptyCycleChangesNothing :
    ∃ s : State, s.nextRecord.host = none ∧ s.nextRecord.ev = 0x800000 :=
  ⟨queued none 0x800000 true 0b0101 { base with tpdState := .ack2 }, rfl, rfl⟩

/-- T1. -/
theorem witness_TickInIdleChangesNothing : ∃ s : State, s.tpdState = .idle := ⟨base, rfl⟩

/-- The last tick of each state (T3, T4), and one before the last. -/
theorem witness_HoldTicksCountThenMoveOn :
    (∃ s : State, s.tpdState = .startLow ∧ s.tpdCnt.toNat + 1 = s.params.tStartLow.toNat) ∧
    (∃ s : State, s.tpdState = .startLow ∧ s.tpdCnt.toNat + 1 ≠ s.params.tStartLow.toNat) ∧
    (∃ s : State, s.tpdState = .release ∧ s.tpdCnt.toNat + 1 = s.params.tRelease.toNat) ∧
    (∃ s : State, s.tpdState = .release ∧ s.tpdCnt.toNat + 1 ≠ s.params.tRelease.toNat) :=
  ⟨⟨{ base with tpdState := .startLow, tpdCnt := 2999 }, rfl, rfl⟩,
    ⟨{ base with tpdState := .startLow, tpdCnt := 2998 }, rfl, by decide⟩,
    ⟨{ base with tpdState := .release, tpdCnt := 29 }, rfl, rfl⟩,
    ⟨{ base with tpdState := .release, tpdCnt := 28 }, rfl, by decide⟩⟩

/-- Success on the last look (T8), the timeouts (T7, T10 with budget 4) and a count (T6). -/
theorem witness_AcknowledgmentTicksSucceedTimeOutOrCount :
    (∃ s : State, s.tpdState = .ack1 ∧ s.line = false ∧ s.tpdCnt = s.params.ackBudget) ∧
    (∃ s : State, s.tpdState = .ack1 ∧ s.line = true ∧ s.tpdCnt = s.params.ackBudget) ∧
    (∃ s : State, s.tpdState = .ack1 ∧ s.line = true ∧ s.tpdCnt ≠ s.params.ackBudget) ∧
    (∃ s : State, s.tpdState = .ack2 ∧ s.line = false ∧ s.tpdCnt = s.params.ackBudget) ∧
    (∃ s : State, s.tpdState = .ack3 ∧ s.line = true ∧ s.tpdCnt = s.params.ackBudget) :=
  ⟨⟨{ base with tpdState := .ack1, tpdCnt := 4, line := false }, rfl, rfl, rfl⟩,
    ⟨{ base with tpdState := .ack1, tpdCnt := 4, line := true }, rfl, rfl, rfl⟩,
    ⟨{ base with tpdState := .ack1, tpdCnt := 3, line := true }, rfl, rfl, by decide⟩,
    ⟨{ base with tpdState := .ack2, tpdCnt := 4, line := false }, rfl, rfl, rfl⟩,
    ⟨{ base with tpdState := .ack3, tpdCnt := 4, line := true }, rfl, rfl, rfl⟩⟩

/-- T17's state, T16's state, and a rise wait at its budget (T12 with budget 5). -/
theorem witness_BitWaitTicksSucceedTimeOutOrCount :
    (∃ s : State, s.tpdState = .bitRise ∧ s.line = false ∧ s.tpdCnt = s.params.bitBudget) ∧
    (∃ s : State, s.tpdState = .bitFall ∧ s.line = true ∧ s.tpdBitcnt = 40 ∧ s.tpdCnt = s.params.bitBudget) ∧
    (∃ s : State, s.tpdState = .bitFall ∧ s.line = false ∧ s.tpdBitcnt ≠ 40) :=
  ⟨⟨{ base with tpdState := .bitRise, tpdCnt := 5, tpdBitcnt := 17 }, rfl, rfl, rfl⟩,
    ⟨{ base with tpdState := .bitFall, tpdCnt := 5, tpdBitcnt := 40, line := true }, rfl, rfl, rfl, rfl⟩,
    ⟨{ base with tpdState := .bitFall, tpdBitcnt := 12 }, rfl, rfl, by decide⟩⟩

/-- T13 and T14. -/
theorem witness_DelayTicksSampleOnTheLast :
    (∃ s : State, s.tpdState = .bitDelay ∧ s.tpdCnt.toNat + 1 ≠ s.params.sampleOffset.toNat) ∧
    (∃ s : State, s.tpdState = .bitDelay ∧ s.tpdCnt.toNat + 1 = s.params.sampleOffset.toNat) :=
  ⟨⟨{ base with tpdState := .bitDelay, tpdCnt := 1 }, rfl, by decide⟩,
    ⟨{ base with tpdState := .bitDelay, tpdCnt := 2, tpdShreg := 0x0000000001, line := true }, rfl, rfl⟩⟩

/-- T18 (valid, negative), T19 (mismatch) and T22 (valid, positive). -/
theorem witness_FinishTickValidatesAndDecodes :
    (∃ (s : State) (b0 b1 b2 b3 b4 : Byte), s.tpdState = .bitFall ∧ s.tpdBitcnt = 40 ∧ s.line = false ∧
      s.tpdShreg.toNat = (((b0.toNat * 256 + b1.toNat) * 256 + b2.toNat) * 256 + b3.toNat) * 256 + b4.toNat ∧
      (b0.toNat + b1.toNat + b2.toNat + b3.toNat) % 256 = b4.toNat ∧ ¬ b2.toNat < 128) ∧
    (∃ (s : State) (b0 b1 b2 b3 b4 : Byte), s.tpdState = .bitFall ∧ s.tpdBitcnt = 40 ∧ s.line = false ∧
      s.tpdShreg.toNat = (((b0.toNat * 256 + b1.toNat) * 256 + b2.toNat) * 256 + b3.toNat) * 256 + b4.toNat ∧
      (b0.toNat + b1.toNat + b2.toNat + b3.toNat) % 256 ≠ b4.toNat) ∧
    (∃ (s : State) (b0 b1 b2 b3 b4 : Byte), s.tpdState = .bitFall ∧ s.tpdBitcnt = 40 ∧ s.line = false ∧
      s.tpdShreg.toNat = (((b0.toNat * 256 + b1.toNat) * 256 + b2.toNat) * 256 + b3.toNat) * 256 + b4.toNat ∧
      (b0.toNat + b1.toNat + b2.toNat + b3.toNat) % 256 = b4.toNat ∧ b2.toNat < 128) :=
  ⟨⟨{ base with tpdState := .bitFall, tpdBitcnt := 40, tpdShreg := 0x025C803210 }, 0x02, 0x5C, 0x80, 0x32, 0x10,
      by decide⟩,
    ⟨{ base with tpdState := .bitFall, tpdBitcnt := 40, tpdShreg := 0x025C803211 }, 0x02, 0x5C, 0x80, 0x32, 0x11,
      by decide⟩,
    ⟨{ base with tpdState := .bitFall, tpdBitcnt := 40, tpdShreg := 0x00007FFF7E }, 0x00, 0x00, 0x7F, 0xFF, 0x7E,
      by decide⟩⟩

/-- Q13, Q18 (index at MAX, +1), Q15 (index at 0, -1, edge) and Q17 (no rotation, no edge). -/
theorem witness_SampleFindsEventsAndUpdatesMenu :
    (∃ s : State, s.menuIndex.toNat ≤ s.params.max.toNat ∧ s.qdPrimed = false) ∧
    (∃ s : State, s.menuIndex.toNat = s.params.max.toNat ∧ s.qdPrimed = true ∧ s.qdSnap.getLsbD 0 = false ∧
      s.pins.getLsbD 0 = true ∧ s.pins.getLsbD 1 = true) ∧
    (∃ s : State, s.menuIndex.toNat ≤ s.params.max.toNat ∧ s.qdPrimed = true ∧ s.qdSnap.getLsbD 0 = false ∧
      s.pins.getLsbD 0 = true ∧ s.pins.getLsbD 1 = false ∧ s.qdSnap.getLsbD 2 = false ∧ s.pins.getLsbD 2 = true) ∧
    (∃ s : State, s.menuIndex.toNat ≤ s.params.max.toNat ∧ s.qdPrimed = true ∧ s.qdSnap.getLsbD 0 = true ∧
      s.pins.getLsbD 2 = false) :=
  ⟨⟨{ base with pins := 0b0111 }, by decide⟩,
    ⟨{ base with qdPrimed := true, qdSnap := 0b0010, pins := 0b0011, menuIndex := 2 }, by decide⟩,
    ⟨{ base with qdPrimed := true, pins := 0b0101 }, by decide⟩,
    ⟨{ base with qdPrimed := true, qdSnap := 0b0001, pins := 0b0000, menuIndex := 1, menuPending := true }, by decide⟩⟩

theorem witness_TpdChangesInExactlyThreeWays :
    ∃ (s t : State) (c : Cycle), fetch s.nextRecord = .ok c ∧ step s = .next t ∧ c.starts s = false ∧
      c.hasTick = false ∧ c.hasReset = false :=
  ⟨queued (some 0x400001) 0x800002 true 0b0111 { base with tpdState := .ack2, tpdCnt := 3 }, _,
    ⟨some (.wrCtrl 1), .evQd⟩, rfl, rfl, by decide, rfl, rfl⟩

/-- No sample; the flag set by an edge (M10 without the consume); the flag cleared by a consume (M7). -/
theorem witness_MenuChangesOnlyByItsOperations :
    (∃ (s t : State) (c : Cycle), fetch s.nextRecord = .ok c ∧ step s = .next t ∧ c.hasReset = false ∧
      c.hasSample = false) ∧
    (∃ (s t : State) (c : Cycle), fetch s.nextRecord = .ok c ∧ step s = .next t ∧ c.hasReset = false ∧
      s.menuPending = false ∧ t.menuPending = true) ∧
    (∃ (s t : State) (c : Cycle), fetch s.nextRecord = .ok c ∧ step s = .next t ∧ c.hasReset = false ∧
      s.menuPending = true ∧ t.menuPending = false) :=
  ⟨⟨queued none 0x800001 true 0 { base with menuPending := true }, _, ⟨none, .evUs⟩, rfl, rfl, rfl, rfl⟩,
    ⟨queued none 0x800002 true 0b0100 { base with qdPrimed := true }, _, ⟨none, .evQd⟩, rfl, rfl, rfl, rfl, rfl⟩,
    ⟨queued (some 0x080000) 0x800000 true 0 { base with menuIndex := 2, menuPending := true }, _,
      ⟨some .rdMenuConsume, .evNop⟩, rfl, rfl, rfl, rfl, rfl⟩⟩

/-- A START; the tick that times out (T7); a reset. -/
theorem witness_AttemptsBeginByStartAndEndByTick :
    (∃ (s t : State) (c : Cycle), fetch s.nextRecord = .ok c ∧ step s = .next t ∧ s.busy = false ∧ t.busy = true) ∧
    (∃ (s t : State) (c : Cycle), fetch s.nextRecord = .ok c ∧ step s = .next t ∧ s.busy = true ∧ t.busy = false ∧
      c.hasReset = false) ∧
    (∃ (s t : State) (c : Cycle), fetch s.nextRecord = .ok c ∧ step s = .next t ∧ s.busy = true ∧ t.busy = false ∧
      c.hasReset = true) :=
  ⟨⟨queued (some 0x400001) 0x800001 true 0 base, _, ⟨some (.wrCtrl 1), .evUs⟩, rfl, rfl, rfl, rfl⟩,
    ⟨queued none 0x800001 true 0 { base with tpdState := .ack1, tpdCnt := 4 }, _, ⟨none, .evUs⟩, rfl, rfl, rfl, rfl, rfl⟩,
    ⟨queued none 0x800004 true 0 { base with tpdState := .ack1, tpdCnt := 4 }, _, ⟨none, .evRst 0⟩, rfl, rfl, rfl, rfl, rfl⟩⟩

/-- A tick beside other QD and MENU fields, and a sample beside other TPD fields. -/
theorem witness_TpdAndSamplerAreIndependent :
    (∃ s q t : State, q.line = s.line ∧ q.params = s.params ∧ exec .evUs s = .next t) ∧
    (∃ s t : State, exec .evQd s = .next t) :=
  ⟨⟨{ base with tpdState := .ack1 }, { base with menuIndex := 2, qdSnap := 0b1111 }, _, rfl, rfl, rfl⟩,
    ⟨{ base with qdPrimed := true, pins := 0b0111 }, _, rfl⟩⟩

theorem witness_TickReadsLineOnlyWhereListed :
    (∃ s t : State, s.tpdState = .idle ∧ exec .evUs s = .next t) ∧
    (∃ s t : State, s.tpdState = .startLow ∧ exec .evUs s = .next t) ∧
    (∃ s t : State, s.tpdState = .release ∧ exec .evUs s = .next t) ∧
    (∃ s t : State, (s.tpdState = .bitDelay ∧ s.tpdCnt.toNat + 1 ≠ s.params.sampleOffset.toNat) ∧
      exec .evUs s = .next t) :=
  ⟨⟨base, _, rfl, rfl⟩, ⟨{ base with tpdState := .startLow, tpdCnt := 2999 }, _, rfl, rfl⟩,
    ⟨{ base with tpdState := .release, tpdCnt := 29 }, _, rfl, rfl⟩,
    ⟨{ base with tpdState := .bitDelay, tpdCnt := 1 }, _, ⟨rfl, by decide⟩, rfl⟩⟩

/-- A state in the middle of an attempt: nine bits in, waiting for the fall, the menu at MAX with a press pending. -/
def midAttempt : State :=
  { base with
    tpdState := .bitFall, tpdCnt := 5, tpdShreg := 0x1FF, tpdBitcnt := 9, qdPrimed := true, qdSnap := 0b0111
    qdLastRot := .plus, qdLastEdge := true, menuIndex := 2, menuPending := true, line := true }

theorem midAttempt_inv : midAttempt.Inv := by constructor <;> decide

/-- The state T7 leaves. -/
theorem ackTimeout_inv :
    State.Inv { base with tpdDone := true, tpdResult := .ackTimeout, tpdStage := .ack1 } := by constructor <;> decide

/-- The state T17 leaves. -/
theorem bitTimeout_inv : State.Inv { base with
    tpdDone := true, tpdResult := .bitTimeout, tpdStage := .bitFall, tpdBitcnt := 40, tpdShreg := 0x025C803210 } := by
  constructor <;> decide

/-- The state T18 leaves. -/
theorem ok_inv : State.Inv { base with
    tpdDone := true, tpdResult := .ok, tpdBitcnt := 40, tpdShreg := 0x025C803210, frameHum := 0x025C, frameTemp := 0x8032
    frameRxCsum := 0x10, frameCalcCsum := 0x10, tempSigned := 0xFFCE } := by constructor <;> decide

/-- The state T19 leaves. -/
theorem mismatch_inv : State.Inv { base with
    tpdDone := true, tpdResult := .checksumMismatch, tpdBitcnt := 40, tpdShreg := 0x025C803211, frameHum := 0x025C
    frameTemp := 0x8032, frameRxCsum := 0x11, frameCalcCsum := 0x10 } := by constructor <;> decide

/-- The invariant holds in the middle of an attempt, and that state steps: the wait times out on its last look. -/
theorem witness_EveryStepKeepsInvariant : ∃ s t : State, s.Inv ∧ step s = .next t :=
  ⟨queued none 0x800001 true 0 midAttempt, _, by constructor <;> decide, rfl⟩

theorem witness_IndexStaysInRangeFromReset :
    ∃ (p : Params) (records : List CycleRecord) (n : Nat) (t : State), p.legal ∧
      afterSteps n { State.reset with params := p, stimulus := records } = some t :=
  ⟨vectorParams, [⟨none, 0x800002, true, 0⟩, ⟨none, 0x800002, true, 0b0011⟩], 2, _, by decide, rfl⟩

theorem witness_NoPartialDataIsExposed :
    (∃ s : State, s.Inv ∧ s.busy = true) ∧ (∃ s : State, s.Inv ∧ s.tpdResult = .ackTimeout) ∧
    (∃ s : State, s.Inv ∧ s.tpdResult = .bitTimeout) ∧ (∃ s : State, s.Inv ∧ s.tpdResult = .checksumMismatch) :=
  ⟨⟨_, midAttempt_inv, rfl⟩, ⟨_, ackTimeout_inv, rfl⟩, ⟨_, bitTimeout_inv, rfl⟩, ⟨_, mismatch_inv, rfl⟩⟩

theorem witness_HoldsLastExactlyTheirTicks :
    (∃ (s : State) (levels : List Level), s.params.legal ∧ s.tpdCnt = 0 ∧ s.tpdState = .startLow ∧
      levels.length = s.params.tStartLow.toNat) ∧
    (∃ (s : State) (levels : List Level), s.params.legal ∧ s.tpdCnt = 0 ∧ s.tpdState = .release ∧
      levels.length = s.params.tRelease.toNat) :=
  ⟨⟨{ base with tpdState := .startLow }, List.replicate 3000 false, by decide, rfl, rfl, List.length_replicate⟩,
    ⟨{ base with tpdState := .release }, List.replicate 30 true, by decide, rfl, rfl, List.length_replicate⟩⟩

theorem witness_UnansweredAttemptTimesOutOnTime :
    ∃ (s : State) (initiate : List Level), s.params.legal ∧
      initiate.length = s.params.tStartLow.toNat + s.params.tRelease.toNat :=
  ⟨base, List.replicate 3030 true, by decide, List.length_replicate⟩

theorem witness_EveryAttemptEndsInTime :
    ∃ (s : State) (levels : List Level), s.Inv ∧ s.busy = true ∧ levels.length = longestAttempt s.params :=
  ⟨midAttempt, List.replicate (longestAttempt vectorParams) true, midAttempt_inv, rfl, List.length_replicate⟩

/-- The bits of a frame, the first the most significant. -/
def frameBits (n : Nat) : List Level := (List.range 40).map (fun i => n.testBit (39 - i))

/-- The waveform of the frame 02 5C 80 32 10 with every wait at its budget. -/
def slowWave : FrameWave where
  initiate := List.replicate 3030 true
  ack1 := 4
  ack2 := 4
  ack3 := 4
  bits := (frameBits 0x025C803210).map (fun b => { low := 5, between := [true, false], bit := b, high := 5 })

theorem witness_TimelyWaveformIsReceived : ∃ (s : State) (w : FrameWave), s.params.legal ∧ w.fits s.params :=
  ⟨base, slowWave, by decide, List.length_replicate, by decide, by decide, by decide, by decide,
    by unfold BitWave.fits; decide⟩

/-- The shortest attempt there is: one tick of each hold, budgets of 0, and the sample one tick after the rise. -/
def quick : State :=
  { base with params := { tStartLow := 1, tRelease := 1, ackBudget := 0, bitBudget := 0, sampleOffset := 1, max := 2 } }

/-- Its line levels for the frame 02 5C 80 32 10. -/
def quickLevels : List Level :=
  [false, true, false, true, false] ++ (frameBits 0x025C803210).flatMap (fun b => [true, b, false])

set_option maxRecDepth 20000 in
/-- The statement's premises are met by one whole attempt of 125 ticks. -/
theorem witness_OkOnlyByATimelyWaveform :
    ∃ (s t : State) (levels : List Level), 1 ≤ s.params.tStartLow.toNat ∧ 1 ≤ s.params.tRelease.toNat ∧
      1 ≤ s.params.sampleOffset.toNat ∧
      countAlong (fun u => !u.busy) levels.length ((startAttempt s).withTicks levels) = 0 ∧
      afterSteps levels.length ((startAttempt s).withTicks levels) = some t ∧ t.tpdResult = .ok := by
  have h : ∃ t, afterSteps quickLevels.length ((startAttempt quick).withTicks quickLevels) = some t ∧
      t.tpdResult = .ok := by
    have hr : (afterSteps quickLevels.length ((startAttempt quick).withTicks quickLevels)).map (·.tpdResult)
        = some .ok := by decide
    simpa [Option.map_eq_some_iff] using hr
  obtain ⟨t, ht, hr⟩ := h
  exact ⟨quick, t, quickLevels, by decide, by decide, by decide, by decide, ht, hr⟩

/-- A press, a second press absorbed, a consume: no reset among the steps. -/
theorem witness_PressesAreConsumedExactlyOnce :
    ∃ (n : Nat) (s t : State), afterSteps n s = some t ∧ countAlong resetsNext n s = 0 :=
  ⟨2, queued none 0x800002 true 0b0100 (queued (some 0x080000) 0x800000 true 0 { base with qdPrimed := true }), _, rfl,
    by decide⟩

theorem witness_SingleByteCorruptionIsDetected :
    ∃ (s t : State) (k : Nat) (m : Byte), s.tpdState = .bitFall ∧ s.tpdBitcnt = 40 ∧ s.line = false ∧
      exec .evUs s = .next t ∧ t.tpdResult = .ok ∧ k < 5 ∧ m ≠ 0 :=
  ⟨{ base with tpdState := .bitFall, tpdBitcnt := 40, tpdShreg := 0x025C803210 }, _, 4, 0x01, rfl, rfl, rfl, rfl,
    by decide, by decide, by decide⟩

end Sys2Proof.Machine.Tests
end

section
/-! SUPPORT. The scope statements (spec/00_scope.md R3, R19, R62): every legal cycle completes, and what the machine does
within a cycle leaves the model's own fields alone, so that only the start of a cycle moves them on. -/

namespace Sys2Proof.Machine

/-! ## The model's own fields -/

/-- The model's own fields of two states agree: the parameters, the queued records and the cycle number (logs 1 and 3). -/
structure SameModelFields (s t : State) : Prop where
  params : t.params = s.params
  stimulus : t.stimulus = s.stimulus
  cycle : t.cycle = s.cycle

theorem SameModelFields.refl (s : State) : SameModelFields s s := ⟨rfl, rfl, rfl⟩

theorem SameModelFields.trans {s t u : State} (hst : SameModelFields s t) (htu : SameModelFields t u) :
    SameModelFields s u :=
  ⟨htu.params.trans hst.params, htu.stimulus.trans hst.stimulus, htu.cycle.trans hst.cycle⟩

theorem SameRest.sameModelFields {s t : State} (h : SameRest s t) : SameModelFields s t :=
  ⟨h.params, h.stimulus, h.cycle⟩

/-! ## Each operation keeps them -/

theorem hostRead_sameModelFields (a : RegAddr) (s : State) : SameModelFields s (hostRead a s) := by
  rcases hostRead_cases a s with ⟨-, consumed⟩ | ⟨-, plain⟩
  · rw [consumed]; exact ⟨rfl, rfl, rfl⟩
  · rw [plain]; exact ⟨rfl, rfl, rfl⟩

theorem hostWrite_sameModelFields (a : RegAddr) (v : RegWord) (s : State) : SameModelFields s (hostWrite a v s) := by
  rcases hostWrite_cases a v s with ⟨-, -, started⟩ | ⟨-, ignored⟩
  · rw [started]; exact ⟨rfl, rfl, rfl⟩
  · rw [ignored]; exact .refl s

theorem tpdTick_sameModelFields (s : State) : SameModelFields s (tpdTick s) :=
  have ⟨_, _, rest⟩ := tpdTick_frame s
  rest.sameModelFields

theorem qdSample_sameModelFields (s : State) : SameModelFields s (qdSample s) :=
  have ⟨_, rest⟩ := qdSample_frame s
  rest.sameModelFields

/-- Reset clears the flip-flops of R49, and the model's own fields are none of them. -/
theorem resetState_sameModelFields (s : State) : SameModelFields s (resetState s) := ⟨rfl, rfl, rfl⟩

/-! ## Completion and frame of an instruction, a cycle and a step -/

/-- Every instruction completes and keeps the model's own fields (60_exceptions.md R219). -/
theorem exec_completes (i : Instr) (s : State) : ∃ t, exec i s = .next t ∧ SameModelFields s t := by
  cases i with
  | rdCtrl | rdTpdStatus | rdFrameHum | rdFrameTemp | rdFrameCsum | rdTempSigned | rdQdStatus | rdMenuState
  | rdMenuConsume | rdRsvd9 | rdRsvdAB | rdRsvdCF => exact ⟨_, rfl, hostRead_sameModelFields _ s⟩
  | wrCtrl | wrIgnored1 | wrIgnored23 | wrIgnored47 | wrIgnored8F => exact ⟨_, rfl, hostWrite_sameModelFields _ _ s⟩
  | evNop => exact ⟨_, rfl, .refl s⟩
  | evUs => exact ⟨_, rfl, tpdTick_sameModelFields s⟩
  | evQd => exact ⟨_, rfl, qdSample_sameModelFields s⟩
  | evUsQd => exact ⟨_, rfl, (qdSample_sameModelFields s).trans (tpdTick_sameModelFields _)⟩
  | evRst => exact ⟨_, rfl, resetState_sameModelFields s⟩

/-- Every decoded cycle completes and keeps the model's own fields: it is one instruction, or two in the order of R201. -/
theorem runCycle_completes (c : Cycle) (s : State) : ∃ t, runCycle c s = .next t ∧ SameModelFields s t := by
  rcases runCycle_cases c s with ⟨-, eventAlone⟩ | ⟨h, u, -, -, hostRuns, hostThenEvent⟩
  · rw [eventAlone]
    exact exec_completes c.ev s
  · have ⟨u', hostRuns', keptByHost⟩ := exec_completes h s
    obtain rfl : u = u' := by simpa [hostRuns] using hostRuns'
    have ⟨t, eventRuns, keptByEvent⟩ := exec_completes (if acceptsStart h s then dropTick c.ev else c.ev) u
    exact ⟨t, hostThenEvent.trans eventRuns, keptByHost.trans keptByEvent⟩

/-- A step on a legal record completes; the start of the cycle takes one record and counts one cycle, and the cycle itself
leaves both as they are (00_scope.md R3). -/
theorem step_completes_of_fetch {s : State} {c : Cycle} (hc : fetch s.nextRecord = .ok c) :
    ∃ t, step s = .next t ∧ t.params = s.params ∧ t.stimulus = s.stimulus.tail ∧ t.cycle = s.cycle + 1 := by
  have ⟨t, cycleRuns, kept⟩ :=
    runCycle_completes c (beginCycle s.nextRecord.line s.nextRecord.pins s.stimulus.tail s)
  exact ⟨t, (step_of_fetch hc).trans cycleRuns, kept.params, kept.stimulus, kept.cycle⟩

/-- With nothing queued, the next record is what the environment drives (R19, log 1). -/
theorem nextRecord_of_empty_queue {s : State} (h : s.stimulus = []) :
    s.nextRecord = recordOfInputs (Config.environment s.cycle) := by
  simp [State.nextRecord, h]

/-- Whatever the environment drives at an empty queue is a legal record (30_encoding.md R85). -/
theorem fetch_nextRecord_of_empty_queue {s : State} (h : s.stimulus = []) : ∃ c, fetch s.nextRecord = .ok c := by
  rw [nextRecord_of_empty_queue h]
  exact fetch_recordOfInputs _

/-! ## The statements -/

/-- Settles O10: a legal record's cycle completes, every free draw is a legal record, and `Fault` has no constructor. -/
theorem stepCompletesOnEveryLegalRecord : Obligations.StepCompletesOnEveryLegalRecord := by
  have completes (s : State) (c : Cycle) (hc : fetch s.nextRecord = .ok c) : ∃ t, step s = .next t :=
    have ⟨t, ht, _⟩ := step_completes_of_fetch hc
    ⟨t, ht⟩
  refine ⟨completes, fun s hq => ?_, fun _ why => nomatch why⟩
  have ⟨c, hc⟩ := fetch_nextRecord_of_empty_queue hq
  exact completes s c hc

/-- Settles O11: a step that answers ran a fetched cycle, and every such cycle keeps what its start has set. -/
theorem stepKeepsParametersAndTakesOneRecord : Obligations.StepKeepsParametersAndTakesOneRecord := by
  intro s t ht
  have ⟨c, hc, _⟩ := step_next ht
  have ⟨u, hu, moved⟩ := step_completes_of_fetch hc
  obtain rfl : t = u := by simpa [ht] using hu
  exact moved

end Sys2Proof.Machine
end

section
/-! SUPPORT. The invariant of the state (spec/10_state.md R28 to R40, 60_exceptions.md R211 to R214): each operation keeps
it, with only the clauses proved that the operation touches, and so does every step and every run. -/

namespace Sys2Proof.Machine

/-! ## What the invariant gives -/

theorem busy_iff (s : State) : s.busy = true ↔ s.tpdState ≠ .idle := by simp [State.busy]

/-- Every TPD state lasts at least one tick, because the delays of R6, R7 and R10 are at least 1. -/
theorem cntBound_pos {s : State} (legal : s.params.legal) : 0 < cntBound s := by
  obtain ⟨startLow, release, sampleOffset⟩ := legal
  unfold cntBound
  split <;> omega

theorem bitcntMost_le (s : State) : bitcntMost s ≤ 40 := by unfold bitcntMost; split <;> decide

theorem State.Inv.result_none {s : State} (h : s.Inv) (busy : s.tpdState ≠ .idle) : s.tpdResult = .none :=
  h.busy_no_result ((busy_iff s).2 busy)

/-- While an attempt is in progress every result data field is 0 (40_tpd.md R123). -/
theorem State.Inv.frame_zero {s : State} (h : s.Inv) (busy : s.tpdState ≠ .idle) :
    s.frameHum = 0 ∧ s.frameTemp = 0 ∧ s.frameRxCsum = 0 ∧ s.frameCalcCsum = 0 :=
  h.no_frame_zero (by rw [h.result_none busy]; rfl)

theorem State.Inv.temp_zero {s : State} (h : s.Inv) (busy : s.tpdState ≠ .idle) : s.tempSigned = 0 :=
  h.temp_only_ok (by rw [h.result_none busy]; decide)

/-- Without an outcome there is no stage, and any bit count goes with that (R211). -/
theorem outcomeFits_none_iff (stage : TpdStage) (bitcnt : BitVec 6) :
    outcomeFits .none stage bitcnt = true ↔ stage = .none := by
  cases stage <;> simp [outcomeFits]

/-! ## The primitives of the tick keep it -/

/-- A tick counted before the state's last one keeps the count in its range, so that it does not wrap (R31). -/
theorem countTick_inv {s : State} (h : s.Inv) (notLast : s.tpdCnt.toNat + 1 < cntBound s)
    (noWrap : s.tpdCnt.toNat + 1 < 2 ^ 16) : (countTick s).Inv :=
  { h with
    cnt_bounded := by
      have counted : (countTick s).tpdCnt.toNat = s.tpdCnt.toNat + 1 := by
        simpa [BitVec.toNat_add] using noWrap
      exact counted ▸ notLast }

/-- Entering a state is safe when the bit count is in that state's range (R33). -/
theorem enterState_inv {st : TpdState} {s : State} (h : s.Inv) (busy : s.tpdState ≠ .idle)
    (least : bitcntLeast (enterState st s) ≤ s.tpdBitcnt.toNat)
    (most : s.tpdBitcnt.toNat ≤ bitcntMost (enterState st s)) : (enterState st s).Inv :=
  { h with
    cnt_bounded := cntBound_pos (s := enterState st s) h.params_legal
    bitcnt_least := least
    bitcnt_most := most
    busy_no_result := fun _ => h.result_none busy }

/-- A shift left by one bit at most doubles the register and adds 1 (40_tpd.md R114). -/
theorem sampleBit_shreg_lt {b : Level} {s : State} {n : Nat} (bounded : s.tpdShreg.toNat < 2 ^ n) :
    (sampleBit b s).tpdShreg.toNat < 2 ^ (n + 1) := by
  have shifted : (sampleBit b s).tpdShreg.toNat = 2 * (s.tpdShreg.toNat % 2 ^ 39) + b.toNat := by
    rw [sampleBit_tpdShreg, BitVec.toNat_append, BitVec.extractLsb'_toNat, Nat.shiftRight_zero, BitVec.toNat_ofBool,
      ← Nat.shiftLeft_add_eq_or_of_lt b.toNat_lt, Nat.shiftLeft_eq]
    omega
  have := Nat.mod_le s.tpdShreg.toNat (2 ^ 39)
  have := b.toNat_lt
  omega

/-- A bit sampled in BIT_DELAY counts one of at most 40 (R33, R114). -/
theorem sampleBit_inv {s : State} (h : s.Inv) (delay : s.tpdState = .bitDelay) :
    (enterState .bitFall (sampleBit s.line s)).Inv := by
  have busy : s.tpdState ≠ .idle := by simp [delay]
  have most : s.tpdBitcnt.toNat ≤ 39 := by simpa [bitcntMost, delay] using h.bitcnt_most
  have counted : (s.tpdBitcnt + 1).toNat = s.tpdBitcnt.toNat + 1 := by bv_omega
  have none := h.result_none busy
  have fits : outcomeFits s.tpdResult s.tpdStage (s.tpdBitcnt + 1) = true := by
    have before := h.outcome_fits
    rw [none, outcomeFits_none_iff] at before ⊢
    exact before
  exact
    { h with
      cnt_bounded := cntBound_pos (s := enterState .bitFall (sampleBit s.line s)) h.params_legal
      bitcnt_least := show 1 ≤ (s.tpdBitcnt + 1).toNat by omega
      bitcnt_most := show (s.tpdBitcnt + 1).toNat ≤ 40 by omega
      shreg_bounded := show (sampleBit s.line s).tpdShreg.toNat < 2 ^ (s.tpdBitcnt + 1).toNat by
        rw [counted]
        exact sampleBit_shreg_lt h.shreg_bounded
      busy_no_result := fun _ => none
      outcome_fits := fits }

/-- Ending an attempt with data in the result fields keeps the invariant when that data fits the outcome
(60_exceptions.md R210 to R214). -/
theorem endAttempt_inv {code : TpdResult} {stage : TpdStage} {hum temp signed : BitVec 16}
    {received computed : BitVec 8} {s : State} (h : s.Inv) (outcome : code ≠ .none)
    (fits : outcomeFits code stage s.tpdBitcnt = true)
    (noFrame : code.hasFrame = false → hum = 0 ∧ temp = 0 ∧ received = 0 ∧ computed = 0)
    (onlyOk : code ≠ .ok → signed = 0)
    (ok : code = .ok → computed = received ∧ signed = BitVec.ofInt 16 (temperatureTenths temp))
    (mismatch : code = .checksumMismatch → computed ≠ received) :
    (endAttempt code stage { s with
      frameHum := hum, frameTemp := temp, frameRxCsum := received, frameCalcCsum := computed
      tempSigned := signed }).Inv :=
  { h with
    cnt_bounded := Nat.one_pos
    bitcnt_least := Nat.zero_le _
    bitcnt_most := h.bitcnt_most.trans (bitcntMost_le s)
    done_iff_result := iff_of_true rfl outcome
    busy_no_result := nofun
    outcome_fits := fits
    no_frame_zero := noFrame
    temp_only_ok := onlyOk
    ok_values := ok
    mismatch_values := mismatch }

/-- A timeout leaves no data, because none was written during the attempt (R123, 60_exceptions.md R212, R213). -/
theorem timeout_inv {stage : TpdStage} {s : State} (h : s.Inv) (busy : s.tpdState ≠ .idle)
    (fits : outcomeFits (timeoutResult stage) stage s.tpdBitcnt = true) :
    (endAttempt (timeoutResult stage) stage s).Inv := by
  have isTimeout : timeoutResult stage = .ackTimeout ∨ timeoutResult stage = .bitTimeout := by
    cases stage <;> simp [timeoutResult]
  refine endAttempt_inv h ?_ fits (fun _ => h.frame_zero busy) (fun _ => h.temp_zero busy) ?_ ?_ <;>
    rcases isTimeout with e | e <;> rw [e] <;> nofun

/-- Finish after the 40th bit writes a whole frame, and the temperature with it exactly when the checksums agree
(40_tpd.md R117 to R121). -/
theorem finish_inv {s : State} (h : s.Inv) (busy : s.tpdState ≠ .idle) (full : s.tpdBitcnt = 40) : (finish s).Inv := by
  rcases finish_cases s with ⟨valid, e⟩ | ⟨invalid, e⟩ <;> rw [e]
  · have agree : checksumOf s.tpdShreg = frameByte4 s.tpdShreg := by simpa [frameValid] using valid
    exact endAttempt_inv (s := s) h nofun (by simp [outcomeFits, full]) nofun (absurd rfl)
      (fun _ => ⟨agree, rfl⟩) nofun
  · have differ : checksumOf s.tpdShreg ≠ frameByte4 s.tpdShreg := by simpa [frameValid] using invalid
    exact endAttempt_inv (s := s) h nofun (by simp [outcomeFits, full]) nofun (fun _ => h.temp_zero busy) nofun
      fun _ => differ

/-! ## The tick keeps it, TPD state by TPD state -/

/-- A fixed delay keeps the invariant if its last tick does (R111). -/
theorem hold_inv {n : BitVec 16} {next : TpdState} {s : State} (h : s.Inv) (bound : cntBound s = n.toNat)
    (entered : (enterState next s).Inv) : (hold n next s).Inv := by
  have cnt := h.cnt_bounded
  rcases hold_cases n next s with ⟨-, last⟩ | ⟨before, counts⟩
  · rwa [last]
  · rw [counts]
    exact countTick_inv h (by omega) (by omega)

/-- A bounded wait keeps the invariant if both its success and its timeout do (R110). -/
theorem wait_inv {target : Level} {budget : BitVec 16} {next : WaitNext} {stage : TpdStage} {s : State} (h : s.Inv)
    (bound : cntBound s = budget.toNat + 1) (entered : ∀ st, next = .goto st → (enterState st s).Inv)
    (finished : next = .finish → (finish s).Inv) (timedOut : (endAttempt (timeoutResult stage) stage s).Inv) :
    (wait target budget next stage s).Inv := by
  have cnt := h.cnt_bounded
  rcases wait_cases target budget next stage s with
    ⟨-, st, goes, e⟩ | ⟨-, finishes, e⟩ | ⟨-, -, e⟩ | ⟨-, inBudget, e⟩ <;> rw [e]
  · exact entered st goes
  · exact finished finishes
  · exact timedOut
  · have : s.tpdCnt.toNat ≠ budget.toNat := fun same => inBudget (BitVec.eq_of_toNat_eq same)
    exact countTick_inv h (by omega) (by omega)

/-- In the acknowledgment waits no bit has been sampled, so the success of one meets the range of the next state and its
timeout the outcome's bit count (R106 to R108, R212). -/
theorem ackWait_inv {target : Level} {next : TpdState} {stage : TpdStage} {s : State} (h : s.Inv)
    (busy : s.tpdState ≠ .idle) (bound : cntBound s = s.params.ackBudget.toNat + 1) (noBits : s.tpdBitcnt = 0)
    (least : bitcntLeast (enterState next s) = 0) (fits : outcomeFits (timeoutResult stage) stage 0 = true) :
    (wait target s.params.ackBudget (.goto next) stage s).Inv := by
  refine wait_inv h bound (fun st goes => ?_) nofun (timeout_inv h busy (by rwa [noBits]))
  obtain rfl : next = st := by simpa using goes
  exact enterState_inv h busy (by omega) (by simp [noBits])

theorem tpdTick_inv {s : State} (h : s.Inv) : (tpdTick s).Inv := by
  have least := h.bitcnt_least
  have most := h.bitcnt_most
  cases st : s.tpdState with
  | idle => rwa [tpdTick_idle st]
  | startLow =>
    simp only [bitcntMost, st] at most
    rw [tpdTick_startLow st]
    exact hold_inv h (by simp [cntBound, st]) (enterState_inv h (by simp [st]) (Nat.zero_le _) most)
  | release =>
    simp only [bitcntMost, st] at most
    rw [tpdTick_release st]
    exact hold_inv h (by simp [cntBound, st]) (enterState_inv h (by simp [st]) (Nat.zero_le _) most)
  | ack1 =>
    simp only [bitcntMost, st] at most
    rw [tpdTick_ack1 st]
    exact ackWait_inv h (by simp [st]) (by simp [cntBound, st]) (by bv_omega) rfl rfl
  | ack2 =>
    simp only [bitcntMost, st] at most
    rw [tpdTick_ack2 st]
    exact ackWait_inv h (by simp [st]) (by simp [cntBound, st]) (by bv_omega) rfl rfl
  | ack3 =>
    simp only [bitcntMost, st] at most
    rw [tpdTick_ack3 st]
    exact ackWait_inv h (by simp [st]) (by simp [cntBound, st]) (by bv_omega) rfl rfl
  | bitRise =>
    simp only [bitcntMost, st] at most
    have busy : s.tpdState ≠ .idle := by simp [st]
    rw [tpdTick_bitRise st]
    refine wait_inv h (by simp [cntBound, st]) (fun next goes => ?_) nofun
      (timeout_inv h busy (by simpa [outcomeFits, timeoutResult] using most))
    obtain rfl : .bitDelay = next := by simpa using goes
    exact enterState_inv h busy (Nat.zero_le _) most
  | bitDelay =>
    have cnt := h.cnt_bounded
    have bound : cntBound s = s.params.sampleOffset.toNat := by simp [cntBound, st]
    rw [tpdTick_bitDelay st]
    rcases sampleAfterOffset_cases s with ⟨-, samples⟩ | ⟨before, counts⟩
    · rw [samples]
      exact sampleBit_inv h st
    · rw [counts]
      exact countTick_inv h (by omega) (by omega)
  | bitFall =>
    simp only [bitcntLeast, bitcntMost, st] at least most
    have busy : s.tpdState ≠ .idle := by simp [st]
    have timedOut := timeout_inv (stage := .bitFall) h busy (by simpa [outcomeFits, timeoutResult] using least)
    rw [tpdTick_bitFall st]
    rcases afterBitFall_cases s with ⟨full, finishes⟩ | ⟨notFull, goesOn⟩
    · rw [finishes]
      exact wait_inv h (by simp [cntBound, st]) nofun (fun _ => finish_inv h busy full) timedOut
    · rw [goesOn]
      refine wait_inv h (by simp [cntBound, st]) (fun next goes => ?_) nofun timedOut
      obtain rfl : .bitRise = next := by simpa using goes
      have notForty : s.tpdBitcnt.toNat ≠ 40 := fun e => notFull (BitVec.eq_of_toNat_eq e)
      exact enterState_inv h busy (Nat.zero_le _) (show _ ≤ 39 by omega)

/-! ## The other operations keep it -/

/-- A new attempt clears every field of the last one (40_tpd.md R100). -/
theorem startAttempt_inv {s : State} (h : s.Inv) : (startAttempt s).Inv :=
  { h with
    cnt_bounded := cntBound_pos (s := startAttempt s) h.params_legal
    bitcnt_least := Nat.zero_le _
    bitcnt_most := Nat.zero_le _
    shreg_bounded := Nat.one_pos
    done_iff_result := by simp
    busy_no_result := fun _ => rfl
    outcome_fits := rfl
    no_frame_zero := fun _ => ⟨rfl, rfl, rfl, rfl⟩
    temp_only_ok := fun _ => rfl
    ok_values := nofun
    mismatch_values := nofun }

/-- A rotation found is a rise of phaseA, its sign the current phaseB (41_quadrature.md R142). -/
theorem rotationOf_shows {cur prev : Snapshot} (found : rotationOf cur prev ≠ .zero) :
    phaseA cur = true ∧ (phaseB cur = true ↔ rotationOf cur prev = .plus) := by
  unfold rotationOf at found ⊢
  split_ifs at found ⊢ with rise positive
  · exact ⟨rise.2, by simp [positive]⟩
  · exact ⟨rise.2, by simp [positive]⟩
  · exact absurd rfl found

/-- A rotation found in a sample shows in the pins it stores; an unprimed sample finds none (R145). -/
theorem sampledRotation_shows {s : State} (found : sampledRotation s ≠ .zero) :
    phaseA s.pins = true ∧ (phaseB s.pins = true ↔ sampledRotation s = .plus) := by
  unfold sampledRotation at found ⊢
  split at found
  · next primed => simpa [primed] using rotationOf_shows found
  · exact absurd rfl found

theorem sampledEdge_shows {s : State} (found : sampledEdge s = true) : buttonPressed s.pins = true := by
  simp only [sampledEdge, buttonEdge, Bool.and_eq_true] at found
  obtain ⟨-, -, pressed⟩ := found
  exact pressed

/-- After a sample the index is in [0, MAX], whatever it was before (42_menu.md R161). -/
theorem qdSample_menuIndex_le (s : State) : (qdSample s).menuIndex.toNat ≤ s.params.max.toNat := by
  obtain ⟨low, high⟩ := clamp_range (s.menuIndex.toNat + (sampledRotation s).delta) s.params.max.toNat (by omega)
  have := s.params.max.isLt
  rw [qdSample_menuIndex, BitVec.toNat_ofInt]
  omega

/-- A sample as one update: it stores the pins and what it found, moves the index, and adds an edge to the flag. -/
theorem qdSample_eq (s : State) : qdSample s =
    { storeSample s.pins (sampledRotation s) (sampledEdge s) (applyRotation (sampledRotation s).delta s) with
      menuPending := sampledEdge s || s.menuPending } := by
  unfold qdSample
  split
  · next edge => simp [edge, storeSample, applyButtonEdge]
  · next noEdge => simp [noEdge, storeSample, applyRotation]

/-- A sample makes the stored snapshot, the rotation and the edge agree, and clamps the index (R39, R146, R161). -/
theorem qdSample_inv {s : State} (h : s.Inv) : (qdSample s).Inv := by
  have index := qdSample_menuIndex_le s
  rw [qdSample_eq] at index ⊢
  exact
    { h with
      unprimed_zero := nofun
      rot_in_snap := sampledRotation_shows
      edge_in_snap := sampledEdge_shows
      index_in_range := index }

/-- A read puts data on the bus, which the invariant does not read, and at MENU_CONSUME clears the flag (R57). -/
theorem hostRead_inv {s : State} (a : RegAddr) (h : s.Inv) : (hostRead a s).Inv := by
  rcases hostRead_cases a s with ⟨-, consumed⟩ | ⟨-, plain⟩
  · rw [consumed]
    exact
      { h with
        unprimed_zero := fun unprimed =>
          have ⟨snap, rot, edge, _⟩ := h.unprimed_zero unprimed
          ⟨snap, rot, edge, rfl⟩ }
  · rw [plain]
    exact { h with }

theorem hostWrite_inv {s : State} (a : RegAddr) (v : RegWord) (h : s.Inv) : (hostWrite a v s).Inv := by
  rcases hostWrite_cases a v s with ⟨-, -, started⟩ | ⟨-, ignored⟩
  · rw [started]
    exact startAttempt_inv h
  · rwa [ignored]

/-- The values of R49 meet the invariant under any legal parameters, whatever the state was before the reset. -/
theorem resetState_inv {s : State} (legal : s.params.legal) : (resetState s).Inv where
  params_legal := legal
  cnt_bounded := cntBound_pos (s := resetState s) legal
  bitcnt_least := Nat.zero_le _
  bitcnt_most := Nat.zero_le _
  shreg_bounded := Nat.one_pos
  done_iff_result := by simp
  busy_no_result := fun _ => rfl
  outcome_fits := rfl
  no_frame_zero := fun _ => ⟨rfl, rfl, rfl, rfl⟩
  temp_only_ok := fun _ => rfl
  ok_values := nofun
  mismatch_values := nofun
  unprimed_zero := fun _ => ⟨rfl, rfl, rfl, rfl⟩
  rot_in_snap := fun found => absurd rfl found
  edge_in_snap := nofun
  index_in_range := Nat.zero_le _

/-- The start of a cycle sets the inputs and the model's own fields, none of which the invariant reads. -/
theorem beginCycle_inv {level : Level} {pins : Snapshot} {rest : List CycleRecord} {s : State} (h : s.Inv) :
    (beginCycle level pins rest s).Inv :=
  { h with }

/-! ## An instruction, a cycle, a step and a run keep it -/

theorem exec_inv {i : Instr} {s t : State} (h : s.Inv) (runs : exec i s = .next t) : t.Inv := by
  cases i with
  | rdCtrl | rdTpdStatus | rdFrameHum | rdFrameTemp | rdFrameCsum | rdTempSigned | rdQdStatus | rdMenuState
  | rdMenuConsume | rdRsvd9 | rdRsvdAB | rdRsvdCF => cases runs; exact hostRead_inv _ h
  | wrCtrl | wrIgnored1 | wrIgnored23 | wrIgnored47 | wrIgnored8F => cases runs; exact hostWrite_inv _ _ h
  | evNop => cases runs; exact h
  | evUs => cases runs; exact tpdTick_inv h
  | evQd => cases runs; exact qdSample_inv h
  | evUsQd => cases runs; exact tpdTick_inv (qdSample_inv h)
  | evRst => cases runs; exact resetState_inv h.params_legal

theorem runCycle_inv {c : Cycle} {s t : State} (h : s.Inv) (runs : runCycle c s = .next t) : t.Inv := by
  rcases runCycle_cases c s with ⟨-, eventAlone⟩ | ⟨i, u, -, -, hostRuns, hostThenEvent⟩
  · exact exec_inv h (eventAlone.symm.trans runs)
  · exact exec_inv (exec_inv h hostRuns) (hostThenEvent.symm.trans runs)

theorem step_inv {s t : State} (h : s.Inv) (stepped : step s = .next t) : t.Inv := by
  obtain ⟨c, -, runs⟩ := step_next stepped
  exact runCycle_inv (beginCycle_inv h) runs

/-! ## Runs -/

@[simp] theorem afterSteps_zero (s : State) : afterSteps 0 s = some s := rfl

/-- A run of `n + 1` steps is one step and a run of `n`. -/
theorem afterSteps_succ_of_step {n : Nat} {s t : State} (stepped : step s = .next t) :
    afterSteps (n + 1) s = afterSteps n t := by
  have stepped' : Sys2Proof.core.step s = .next t := stepped
  have run : Host.Core.run Sys2Proof.core (n + 1) s = Host.Core.run Sys2Proof.core n t := by
    simp only [Host.Core.run, stepped']
  simp only [afterSteps, run]

/-- A run that answers began with a step that did. -/
theorem afterSteps_succ_some {n : Nat} {s u : State} (ran : afterSteps (n + 1) s = some u) :
    ∃ t, step s = .next t ∧ afterSteps n t = some u := by
  cases stepped : step s with
  | next t => exact ⟨t, rfl, afterSteps_succ_of_step stepped ▸ ran⟩
  | fault why => cases why
  | refused why =>
    have stepped' : Sys2Proof.core.step s = .refused why := stepped
    have run : Host.Core.run Sys2Proof.core (n + 1) s = .refused why := by simp only [Host.Core.run, stepped']
    simp [afterSteps, run] at ran

/-- What every step keeps, every run keeps. -/
theorem afterSteps_keeps {P : State → Prop} (keeps : ∀ s t, P s → step s = .next t → P t) {n : Nat} {s t : State}
    (h : P s) (ran : afterSteps n s = some t) : P t := by
  induction n generalizing s with
  | zero =>
    obtain rfl : s = t := by simpa using ran
    exact h
  | succ n ih =>
    obtain ⟨u, stepped, rest⟩ := afterSteps_succ_some ran
    exact ih (keeps s u h stepped) rest

/-! ## The statements -/

/-- Settles O42: a step runs at most two instructions after the start of its cycle, and each operation keeps the clauses
it touches. -/
theorem everyStepKeepsInvariant : Obligations.EveryStepKeepsInvariant := fun _ _ => step_inv

/-- Settles O41: the starting state is a reset state with the parameters of Config, which are legal whatever values the
OPEN ones have. -/
theorem resetStateMeetsInvariant : Obligations.ResetStateMeetsInvariant :=
  resetState_inv (s := State.reset) config_params_legal

/-- Settles O43: the invariant holds at reset and every step keeps it, and one clause of it is the range of R28. -/
theorem indexStaysInRangeFromReset : Obligations.IndexStaysInRangeFromReset := by
  intro p records n t legal ran
  have atReset : { State.reset with params := p, stimulus := records }.Inv :=
    resetState_inv (s := { State.reset with params := p, stimulus := records }) legal
  have atEnd : t.Inv := afterSteps_keeps (fun _ _ => step_inv) atReset ran
  exact ⟨Nat.zero_le _, atEnd.index_in_range⟩

end Sys2Proof.Machine
end

section
/-! SUPPORT. What a cycle does to the QD and MENU fields (spec/10_state.md R40, 42_menu.md R165): the host transaction can
only clear the pending flag, and the event can only sample. -/

namespace Sys2Proof.Machine

theorem SameQd.refl (s : State) : SameQd s s := ⟨rfl, rfl, rfl, rfl⟩

theorem SameQd.trans {s t u : State} (hst : SameQd s t) (htu : SameQd t u) : SameQd s u :=
  ⟨htu.qdSnap.trans hst.qdSnap, htu.qdPrimed.trans hst.qdPrimed, htu.qdLastRot.trans hst.qdLastRot,
    htu.qdLastEdge.trans hst.qdLastEdge⟩

/-! ## The host transaction -/

/-- Every decoded instruction is one of the opcode map's (30_encoding.md R78). -/
theorem wellFormed_of_decode {w : StimulusWord} {i : Instr} (h : decode w = .instr i) : i.wellFormed = true := by
  rcases decode_cases w with ⟨-, -, -, e⟩ | ⟨-, -, e⟩ | ⟨-, -, e⟩ | ⟨-, e⟩ | ⟨-, -, e⟩ | ⟨-, -, -, e⟩ | ⟨-, -, e⟩ <;>
    rw [e] at h <;> cases h
  · exact (encode_decodeRead _).2
  · exact (encode_decodeWrite _ _).2
  · exact (encode_decodeEvent _).2

/-- The QD fields and the index are as before, and the flag is as before or was cleared by a read of MENU_CONSUME. -/
structure HostKeepsMenu (host : Option Instr) (s u : State) : Prop where
  sameQd : SameQd s u
  menuIndex : u.menuIndex = s.menuIndex
  menuPending : u.menuPending = s.menuPending ∨ (host = some .rdMenuConsume ∧ u.menuPending = false)

theorem HostKeepsMenu.refl (host : Option Instr) (s : State) : HostKeepsMenu host s s := ⟨.refl s, rfl, .inl rfl⟩

theorem hostRead_keepsMenu {host : Option Instr} {a : RegAddr} (s : State)
    (consume : a = 0x8 → host = some .rdMenuConsume) : HostKeepsMenu host s (hostRead a s) := by
  rcases hostRead_cases a s with ⟨atConsume, consumed⟩ | ⟨-, plain⟩
  · rw [consumed]
    exact ⟨⟨rfl, rfl, rfl, rfl⟩, rfl, .inr ⟨consume atConsume, rfl⟩⟩
  · rw [plain]
    exact ⟨⟨rfl, rfl, rfl, rfl⟩, rfl, .inl rfl⟩

theorem hostWrite_keepsMenu (host : Option Instr) (a : RegAddr) (v : RegWord) (s : State) :
    HostKeepsMenu host s (hostWrite a v s) := by
  rcases hostWrite_cases a v s with ⟨-, -, started⟩ | ⟨-, ignored⟩
  · rw [started]
    exact ⟨⟨rfl, rfl, rfl, rfl⟩, rfl, .inl rfl⟩
  · rw [ignored]
    exact .refl host s

/-- A host transaction of the opcode map reaches MENU_CONSUME's side effect only as RD.MENU_CONSUME (R57, R165): the rows
whose address is an operand do not range over 0x8. -/
theorem exec_host_keepsMenu {i : Instr} {s u : State} (isHost : isEvent i = false) (wf : i.wellFormed = true)
    (runs : exec i s = .next u) : HostKeepsMenu (some i) s u := by
  cases i with
  | rdMenuConsume => cases runs; exact hostRead_keepsMenu s fun _ => rfl
  | rdCtrl | rdTpdStatus | rdFrameHum | rdFrameTemp | rdFrameCsum | rdTempSigned | rdQdStatus | rdMenuState | rdRsvd9 =>
    cases runs; exact hostRead_keepsMenu s (by decide)
  | rdRsvdAB a | rdRsvdCF a =>
    cases runs
    refine hostRead_keepsMenu s fun atConsume => ?_
    rw [atConsume] at wf
    exact absurd wf (by decide)
  | wrCtrl | wrIgnored1 | wrIgnored23 | wrIgnored47 | wrIgnored8F => cases runs; exact hostWrite_keepsMenu _ _ _ s
  | evNop | evUs | evQd | evUsQd | evRst => cases isHost

/-! ## The event -/

/-- The event holds a sample. -/
def isSample (e : Instr) : Bool := e == .evQd || e == .evUsQd

theorem hasSample_eq (c : Cycle) : c.hasSample = isSample c.ev := rfl

@[simp] theorem isSample_dropTick (e : Instr) : isSample (dropTick e) = isSample e := by cases e <;> rfl
@[simp] theorem isEvent_dropTick (e : Instr) : isEvent (dropTick e) = isEvent e := by cases e <;> rfl
@[simp] theorem isReset_dropTick (e : Instr) : isReset (dropTick e) = isReset e := by cases e <;> rfl

/-- An event without reset leaves the QD and MENU fields alone, or samples and adds the edge found to the flag (R146). -/
theorem exec_event_menu {e : Instr} {u t : State} (event : isEvent e = true) (noReset : isReset e = false)
    (runs : exec e u = .next t) :
    (isSample e = false ∧ SameQd u t ∧ SameMenu u t) ∨
    (isSample e = true ∧ t.menuPending = (t.qdLastEdge || u.menuPending)) := by
  cases e with
  | evNop => cases runs; exact .inl ⟨rfl, .refl u, rfl, rfl⟩
  | evUs =>
    cases runs
    obtain ⟨sameQd, sameMenu, -⟩ := tpdTick_frame u
    exact .inl ⟨rfl, sameQd, sameMenu⟩
  | evQd => cases runs; exact .inr ⟨rfl, qdSample_menuPending u⟩
  | evUsQd =>
    cases runs
    obtain ⟨sameQd, sameMenu, -⟩ := tpdTick_frame (qdSample u)
    exact .inr ⟨rfl, by rw [sameMenu.menuPending, sameQd.qdLastEdge]; exact qdSample_menuPending u⟩
  | evRst => cases noReset
  | _ => cases event

/-! ## A cycle and a step -/

/-- A cycle without reset is a host transaction, or none, and then an event with the same sample (R200, R201). -/
theorem runCycle_hostThenEvent {r : CycleRecord} {c : Cycle} {s t : State} (fetched : fetch r = .ok c)
    (noReset : c.hasReset = false) (runs : runCycle c s = .next t) :
    ∃ u e, HostKeepsMenu c.host s u ∧ isEvent e = true ∧ isReset e = false ∧ isSample e = c.hasSample ∧
      exec e u = .next t := by
  obtain ⟨⟨-, event⟩, host⟩ := fetch_ok fetched
  rcases runCycle_cases c s with ⟨-, eventAlone⟩ | ⟨i, u, hostIs, -, hostRuns, hostThenEvent⟩
  · exact ⟨s, c.ev, .refl _ s, event, noReset, rfl, eventAlone.symm.trans runs⟩
  · rcases host with ⟨-, noHost⟩ | ⟨w, j, -, hostIs', decoded, isHost⟩
    · rw [noHost] at hostIs
      cases hostIs
    · obtain rfl : i = j := by simpa [hostIs] using hostIs'
      have kept := exec_host_keepsMenu isHost (wellFormed_of_decode decoded) hostRuns
      refine ⟨u, if acceptsStart i s then dropTick c.ev else c.ev, hostIs ▸ kept, ?_, ?_, ?_,
        hostThenEvent.symm.trans runs⟩ <;> split
      · exact (isEvent_dropTick c.ev).trans event
      · exact event
      · exact (isReset_dropTick c.ev).trans noReset
      · exact noReset
      · exact isSample_dropTick c.ev
      · rfl

/-- Settles O37: the host part can only clear the flag, by a read of MENU_CONSUME, and the event part changes the QD and
MENU fields only by a sample, which only adds the edge it found to the flag. -/
theorem menuChangesOnlyByItsOperations : Obligations.MenuChangesOnlyByItsOperations := by
  intro s t c fetched stepped noReset
  rw [step_of_fetch fetched] at stepped
  obtain ⟨u, e, host, event, noReset', sample, runs⟩ := runCycle_hostThenEvent fetched noReset stepped
  have hostPending : u.menuPending = s.menuPending ∨ (c.host = some .rdMenuConsume ∧ u.menuPending = false) :=
    host.menuPending
  rcases exec_event_menu event noReset' runs with ⟨noSample, sameQd, sameMenu⟩ | ⟨sampled, pending⟩
  · have pending := sameMenu.menuPending
    have begun : SameQd s (beginCycle s.nextRecord.line s.nextRecord.pins s.stimulus.tail s) := ⟨rfl, rfl, rfl, rfl⟩
    refine ⟨fun _ => ⟨sameMenu.menuIndex.trans host.menuIndex, (begun.trans host.sameQd).trans sameQd⟩, ?_, ?_⟩
    · rcases hostPending with same | ⟨-, cleared⟩ <;> simp_all
    · rcases hostPending with same | ⟨consumes, -⟩ <;> simp_all
  · refine ⟨fun noSample => ?_, fun clear set => ⟨sample ▸ sampled, ?_⟩, fun set clear => ?_⟩
    · rw [← sample, sampled] at noSample
      cases noSample
    · rcases hostPending with same | ⟨-, cleared⟩ <;> simp_all
    · rcases hostPending with same | ⟨consumes, -⟩ <;> simp_all

end Sys2Proof.Machine
end

section
/-! SUPPORT. The flag BUSY and the starting state (spec/10_state.md R27, R49), and how long the fixed delays last
(R23, 40_tpd.md R104, R105, R111). -/

namespace Sys2Proof.Machine

/-! ## BUSY and the starting state -/

/-- BUSY stands in bit 0 of the TPD_STATUS word (R42). -/
theorem tpdStatusWord_bit_zero (s : State) : (tpdStatusWord s).getLsbD 0 = s.busy := by
  rw [tpdStatusWord, BitVec.getLsbD_append]
  simp

/-- Settles O18: the read returns the TPD_STATUS word and has no side effect. -/
theorem busyReadsAsStatusBitZero : Obligations.BusyReadsAsStatusBitZero := fun s =>
  ⟨tpdStatusWord s, rfl, by rw [tpdStatusWord_bit_zero, busy_iff], busy_iff s⟩

/-- Settles O25: EV.RST sets what the starting state already holds, and the parameters of Config are legal. -/
theorem machineStartsInTheResetState : Obligations.MachineStartsInTheResetState :=
  ⟨⟨0, rfl⟩, rfl, rfl, rfl, rfl, rfl, rfl, rfl, config_params_legal, rfl, rfl, rfl⟩

/-! ## Runs of ticks -/

/-- The state after one cycle that ticks with the line at this level and does nothing else; the queue stays. -/
def tickAt (s : State) (level : Level) : State := tpdTick (beginCycle level 0 s.stimulus s)

/-- The state after one such cycle for each level. -/
def ticksAt (s : State) (levels : List Level) : State := levels.foldl tickAt s

@[simp] theorem ticksAt_nil (s : State) : ticksAt s [] = s := rfl

@[simp] theorem ticksAt_cons (s : State) (l : Level) (ls : List Level) :
    ticksAt s (l :: ls) = ticksAt (tickAt s l) ls := rfl

theorem ticksAt_concat (s : State) (ls : List Level) (l : Level) :
    ticksAt s (ls ++ [l]) = tickAt (ticksAt s ls) l := by simp [ticksAt]

@[simp] theorem tickAt_params (s : State) (l : Level) : (tickAt s l).params = s.params :=
  have ⟨_, _, rest⟩ := tpdTick_frame (beginCycle l 0 s.stimulus s)
  rest.params

@[simp] theorem tickAt_stimulus (s : State) (l : Level) : (tickAt s l).stimulus = s.stimulus :=
  have ⟨_, _, rest⟩ := tpdTick_frame (beginCycle l 0 s.stimulus s)
  rest.stimulus

@[simp] theorem ticksAt_params (s : State) (ls : List Level) : (ticksAt s ls).params = s.params := by
  induction ls generalizing s with
  | nil => rfl
  | cons l ls ih => simp [ih]

/-- The state with another queue of records. -/
def State.withQueue (queue : List CycleRecord) (s : State) : State := { s with stimulus := queue }

theorem hold_withQueue (queue : List CycleRecord) (n : BitVec 16) (next : TpdState) (s : State) :
    hold n next (s.withQueue queue) = (hold n next s).withQueue queue :=
  (apply_ite (State.withQueue queue) (s.tpdCnt.toNat + 1 = n.toNat) (enterState next s) (countTick s)).symm

theorem finish_withQueue (queue : List CycleRecord) (s : State) :
    finish (s.withQueue queue) = (finish s).withQueue queue :=
  (apply_ite (State.withQueue queue) (frameValid s.tpdShreg = true)
    (endAttempt .ok .none (writeTemperature (writeFrame s))) (endAttempt .checksumMismatch .none (writeFrame s))).symm

theorem wait_withQueue (queue : List CycleRecord) (target : Level) (budget : BitVec 16) (next : WaitNext)
    (stage : TpdStage) (s : State) :
    wait target budget next stage (s.withQueue queue) = (wait target budget next stage s).withQueue queue := by
  unfold wait
  rw [apply_ite (State.withQueue queue), apply_ite (State.withQueue queue)]
  cases next with
  | goto st => rfl
  | finish => rw [← finish_withQueue]; rfl

theorem sampleAfterOffset_withQueue (queue : List CycleRecord) (s : State) :
    sampleAfterOffset (s.withQueue queue) = (sampleAfterOffset s).withQueue queue :=
  (apply_ite (State.withQueue queue) (s.tpdCnt.toNat + 1 = s.params.sampleOffset.toNat)
    (enterState .bitFall (sampleBit s.line s)) (countTick s)).symm

/-- A tick neither reads nor changes the queue. -/
theorem tpdTick_withQueue (queue : List CycleRecord) (s : State) :
    tpdTick (s.withQueue queue) = (tpdTick s).withQueue queue := by
  have sameState : (s.withQueue queue).tpdState = s.tpdState := rfl
  unfold tpdTick
  rw [sameState]
  cases s.tpdState with
  | idle => rfl
  | startLow | release => exact hold_withQueue queue _ _ s
  | ack1 | ack2 | ack3 | bitRise | bitFall => exact wait_withQueue queue _ _ _ _ s
  | bitDelay => exact sampleAfterOffset_withQueue queue s

theorem withTicks_nil (s : State) : s.withTicks [] = s := rfl

theorem fetch_tickRecord (l : Level) : fetch (tickRecord l) = .ok { host := none, ev := .evUs } := by
  cases l <;> decide

/-- The first queued tick is what the next step runs. -/
theorem step_withTicks_cons (s : State) (l : Level) (ls : List Level) :
    step (s.withTicks (l :: ls)) = .next ((tickAt s l).withTicks ls) := by
  have fetched : fetch (s.withTicks (l :: ls)).nextRecord = .ok { host := none, ev := .evUs } := fetch_tickRecord l
  have queue := tpdTick_withQueue (ls.map tickRecord ++ s.stimulus) (beginCycle l 0 s.stimulus s)
  rw [step_of_fetch fetched]
  refine congrArg Host.Outcome.next (queue.trans ?_)
  rw [State.withTicks, tickAt_stimulus]
  rfl

/-- As many steps as there are levels run exactly those ticks. -/
theorem afterSteps_withTicks_append (s : State) (ls rest : List Level) :
    afterSteps ls.length (s.withTicks (ls ++ rest)) = some ((ticksAt s ls).withTicks rest) := by
  induction ls generalizing s with
  | nil => rfl
  | cons l ls ih =>
    rw [List.length_cons, List.cons_append, afterSteps_succ_of_step (step_withTicks_cons s l _)]
    exact ih (tickAt s l)

theorem afterSteps_withTicks_take {s : State} {levels : List Level} {k : Nat} (le : k ≤ levels.length) :
    afterSteps k (s.withTicks levels) = some ((ticksAt s (levels.take k)).withTicks (levels.drop k)) := by
  simpa [le] using afterSteps_withTicks_append s (levels.take k) (levels.drop k)

theorem afterSteps_withTicks (s : State) (levels : List Level) :
    afterSteps levels.length (s.withTicks levels) = some (ticksAt s levels) := by
  simpa [withTicks_nil] using afterSteps_withTicks_append s levels []

/-! ## The fixed delays -/

theorem dqDriveLow_iff (s : State) : s.dqDriveLow = true ↔ s.tpdState = .startLow := by simp [State.dqDriveLow]

/-- A tick of this TPD state is one of a fixed delay of `n` ticks (R111). -/
def IsHold (st next : TpdState) (n : Params → BitVec 16) : Prop :=
  ∀ s : State, s.tpdState = st → tpdTick s = hold (n s.params) next s

theorem startLow_isHold : IsHold .startLow .release Params.tStartLow := fun _ => tpdTick_startLow

theorem release_isHold : IsHold .release .ack1 Params.tRelease := fun _ => tpdTick_release

section
variable {st next : TpdState} {n : Params → BitVec 16}

/-- A tick before the delay's last one counts (R111). -/
theorem tickAt_hold_counts (isHold : IsHold st next n) {s : State} (l : Level) (inState : s.tpdState = st)
    (before : s.tpdCnt.toNat + 1 < (n s.params).toNat) :
    (tickAt s l).tpdState = st ∧ (tickAt s l).tpdCnt.toNat = s.tpdCnt.toNat + 1 := by
  rw [tickAt, isHold (beginCycle l 0 s.stimulus s) inState]
  rcases hold_cases (n s.params) next (beginCycle l 0 s.stimulus s) with ⟨last, -⟩ | ⟨-, counts⟩
  · exact absurd last before.ne
  · rw [beginCycle_params, counts]
    refine ⟨inState, ?_⟩
    have noWrap := (n s.params).isLt
    simp [BitVec.toNat_add]
    omega

/-- The delay's last tick moves on with the count at 0 (R111). -/
theorem tickAt_hold_last (isHold : IsHold st next n) {s : State} (l : Level) (inState : s.tpdState = st)
    (last : s.tpdCnt.toNat + 1 = (n s.params).toNat) :
    (tickAt s l).tpdState = next ∧ (tickAt s l).tpdCnt = 0 := by
  rw [tickAt, isHold (beginCycle l 0 s.stimulus s) inState]
  rcases hold_cases (n s.params) next (beginCycle l 0 s.stimulus s) with ⟨-, moves⟩ | ⟨notLast, -⟩
  · rw [beginCycle_params, moves]
    exact ⟨rfl, rfl⟩
  · exact absurd last notLast

/-- Fewer ticks than the delay has left are all counted, at any line levels. -/
theorem ticksAt_hold_counts (isHold : IsHold st next n) {s : State} {ls : List Level} (inState : s.tpdState = st)
    (before : s.tpdCnt.toNat + ls.length < (n s.params).toNat) :
    (ticksAt s ls).tpdState = st ∧ (ticksAt s ls).tpdCnt.toNat = s.tpdCnt.toNat + ls.length := by
  induction ls generalizing s with
  | nil => exact ⟨inState, rfl⟩
  | cons l ls ih =>
    rw [List.length_cons] at before
    obtain ⟨still, counted⟩ := tickAt_hold_counts isHold l inState (by omega)
    obtain ⟨st', cnt'⟩ := ih still (by rw [counted, tickAt_params]; omega)
    exact ⟨st', by rw [ticksAt_cons, cnt', counted, List.length_cons]; omega⟩

/-- A delay entered with the count at 0 lasts exactly its ticks: before each of them the TPD is still in it, and after them
in the next state with the count at 0 (R111). -/
theorem hold_lasts (isHold : IsHold st next n) {s : State} {levels : List Level} (inState : s.tpdState = st)
    (fresh : s.tpdCnt = 0) (positive : 1 ≤ (n s.params).toNat) (length : levels.length = (n s.params).toNat) :
    (∀ k, k < levels.length → ∃ t, afterSteps k (s.withTicks levels) = some t ∧ t.tpdState = st) ∧
    ∃ t, afterSteps levels.length (s.withTicks levels) = some t ∧ t.tpdState = next ∧ t.tpdCnt = 0 := by
  have counted (ls : List Level) (before : ls.length < (n s.params).toNat) :
      (ticksAt s ls).tpdState = st ∧ (ticksAt s ls).tpdCnt.toNat = ls.length := by
    simpa [fresh] using ticksAt_hold_counts isHold (ls := ls) inState (by simpa [fresh] using before)
  refine ⟨fun k lt => ?_, ?_⟩
  · obtain ⟨still, -⟩ := counted (levels.take k) (by simp; omega)
    exact ⟨_, afterSteps_withTicks_take lt.le, still⟩
  · obtain rfl | ⟨init, l, rfl⟩ := List.eq_nil_or_concat' levels
    · rw [List.length_nil] at length
      omega
    · have lengths : init.length + 1 = (n s.params).toNat := by simpa using length
      obtain ⟨still, cnt⟩ := counted init (by omega)
      have moved := tickAt_hold_last isHold l still (by rw [cnt, ticksAt_params]; exact lengths)
      rw [← ticksAt_concat] at moved
      exact ⟨_, afterSteps_withTicks s _, moved⟩

end

/-- Settles O45: both delays are fixed ones of at least one tick, and the line is driven by the state alone. -/
theorem holdsLastExactlyTheirTicks : Obligations.HoldsLastExactlyTheirTicks := by
  refine ⟨dqDriveLow_iff, fun s levels ⟨startLow, release, _⟩ fresh =>
    ⟨fun inState length => ?_, fun inState length => ?_⟩⟩
  · obtain ⟨during, t, ran, ends, cnt⟩ := hold_lasts startLow_isHold inState fresh (by omega) length
    refine ⟨fun k lt => ?_, t, ran, ends, cnt, by simp [State.dqDriveLow, ends]⟩
    obtain ⟨u, ran', still⟩ := during k lt
    exact ⟨u, ran', still, (dqDriveLow_iff u).2 still⟩
  · obtain ⟨during, after⟩ := hold_lasts release_isHold inState fresh release length
    refine ⟨fun k lt => ?_, after⟩
    obtain ⟨u, ran, still⟩ := during k lt
    exact ⟨u, ran, still, by simp [State.dqDriveLow, still]⟩

end Sys2Proof.Machine
end

section
/-! SUPPORT. The address space of the host (spec/20_memory.md R51 to R57): a decoded access is the access to its address,
the reserved addresses hold nothing, and a read without side effect can be repeated. -/

namespace Sys2Proof.Machine

/-! ## A decoded access is the access to its address -/

/-- Whichever row an address belongs to, its read is `hostRead` there (20_memory.md R51). -/
theorem exec_decodeRead (a : RegAddr) (s : State) : exec (decodeRead a) s = .next (hostRead a s) := by
  rcases a with ⟨⟨n, hn⟩⟩
  interval_cases n <;> rfl

/-- Whichever row an address belongs to, its write is `hostWrite` there (20_memory.md R51). -/
theorem exec_decodeWrite (a : RegAddr) (v : RegWord) (s : State) :
    exec (decodeWrite a v) s = .next (hostWrite a v s) := by
  rcases a with ⟨⟨n, hn⟩⟩
  interval_cases n <;> rfl

/-! ## What an access gives -/

/-- Only the read of MENU_CONSUME has a side effect (R57). -/
theorem hostRead_of_ne_consume {a : RegAddr} (notConsume : a ≠ 0x8) (s : State) :
    hostRead a s = returnData (readValue a s) s := by
  rcases hostRead_cases a s with ⟨atConsume, -⟩ | ⟨-, plain⟩
  · exact absurd atConsume notConsume
  · exact plain

/-- Only a write to CTRL can do anything (R53). -/
theorem hostWrite_of_ne_ctrl {a : RegAddr} (notCtrl : a ≠ 0x0) (v : RegWord) (s : State) : hostWrite a v s = s := by
  rcases hostWrite_cases a v s with ⟨atCtrl, -, -⟩ | ⟨-, ignored⟩
  · exact absurd atCtrl notCtrl
  · exact ignored

/-- The addresses from 0x9 on hold no register (R52). -/
theorem readValue_reserved {a : RegAddr} (reserved : 0x9 ≤ a.toNat) (s : State) : readValue a s = 0 := by
  unfold readValue
  split
  case h_9 => rfl
  all_goals omega

/-- No register's word depends on the read data port. -/
@[simp] theorem readValue_returnData (a : RegAddr) (v : RegWord) (s : State) :
    readValue a (returnData v s) = readValue a s := by
  unfold readValue
  split <;> rfl

@[simp] theorem returnData_returnData (v w : RegWord) (s : State) :
    returnData v (returnData w s) = returnData v s := rfl

/-- A read without side effect, done again, finds the same word and leaves the same state. -/
theorem hostRead_hostRead {a : RegAddr} (notConsume : a ≠ 0x8) (s : State) :
    hostRead a (hostRead a s) = hostRead a s := by
  simp [hostRead_of_ne_consume notConsume]

/-! ## The statements -/

/-- Settles O16: a reserved address is neither MENU_CONSUME nor CTRL, the two with an effect, and its word is 0. -/
theorem reservedAddressesReadZeroIgnoreWrites : Obligations.ReservedAddressesReadZeroIgnoreWrites := by
  intro a s reserved
  have notConsume : a ≠ 0x8 := by rintro rfl; exact absurd reserved (by decide)
  have notCtrl : a ≠ 0x0 := by rintro rfl; exact absurd reserved (by decide)
  refine ⟨?_, fun v => ?_⟩
  · rw [exec_decodeRead, hostRead_of_ne_consume notConsume, readValue_reserved reserved]
    rfl
  · rw [exec_decodeWrite, hostWrite_of_ne_ctrl notCtrl]

/-- Settles O22: away from MENU_CONSUME a read only sets the read data, which no register's word depends on. -/
theorem sideEffectFreeReadsRepeat : Obligations.SideEffectFreeReadsRepeat := by
  intro a s notConsume
  have value : (hostRead a s).busRdata = some (readValue a s) := rfl
  have again : exec (decodeRead a) (hostRead a s) = .next (hostRead a s) := by
    rw [exec_decodeRead, hostRead_hostRead notConsume]
  exact ⟨hostRead a s, readValue a s, exec_decodeRead a s, value, hostRead a s, again, value, rfl⟩

end Sys2Proof.Machine
end

section
/-! SUPPORT. The encoding statements (spec/30_encoding.md R70 to R79): a word is an instruction exactly when it is a word of
one of the formats HR, HW and EV, and what a row of the opcode map says of the fields of a word that selects it. -/

namespace Sys2Proof

/-! ## Instructions and words of the three formats -/

/-- The verdict "instruction" is given only on a word of one of the formats of R71 to R73. -/
theorem format_of_decode {w : StimulusWord} {i : Instr} (h : decode w = .instr i) :
    (∃ a, w = hrWord a ∧ i = decodeRead a) ∨ (∃ a v, w = hwWord a v ∧ i = decodeWrite a v) ∨
      (∃ b, w = evWord b ∧ i = decodeEvent b) := by
  rcases decode_cases w with ⟨hk, hz, hd, hw⟩ | ⟨hk, hz, hw⟩ | ⟨hk, hz, hw⟩ | ⟨-, hw⟩ | ⟨-, -, hw⟩ | ⟨-, -, -, hw⟩ |
    ⟨-, -, hw⟩
  case inl =>
    exact .inl ⟨addrOf w, (hrWord_of_fields hk hz hd).symm, by simpa [hw] using h.symm⟩
  case inr.inl =>
    exact .inr (.inl ⟨addrOf w, wdataOf w, (hwWord_of_fields hk hz).symm, by simpa [hw] using h.symm⟩)
  case inr.inr.inl =>
    exact .inr (.inr ⟨eventBitsOf w, (evWord_of_fields hk hz).symm, by simpa [hw] using h.symm⟩)
  all_goals simp [hw] at h

/-- A well-formed instruction is what the decoder reads from the fields its encoder writes (R78). -/
theorem format_of_wellFormed {i : Instr} (h : i.wellFormed = true) :
    (∃ a, encode i = hrWord a ∧ decodeRead a = i) ∨ (∃ a v, encode i = hwWord a v ∧ decodeWrite a v = i) ∨
      (∃ b, encode i = evWord b ∧ decodeEvent b = i) := by
  cases i with
  | rdCtrl | rdTpdStatus | rdFrameHum | rdFrameTemp | rdFrameCsum | rdTempSigned | rdQdStatus | rdMenuState
  | rdMenuConsume | rdRsvd9 => exact .inl ⟨_, rfl, rfl⟩
  | rdRsvdAB a | rdRsvdCF a => exact .inl ⟨a, rfl, by revert a; decide⟩
  | wrCtrl v | wrIgnored1 v => exact .inr (.inl ⟨_, v, rfl, rfl⟩)
  | wrIgnored23 a v | wrIgnored47 a v | wrIgnored8F a v =>
    refine .inr (.inl ⟨a, v, rfl, ?_⟩)
    rcases a with ⟨⟨n, hn⟩⟩
    obtain ⟨low, high⟩ : _ ≤ n ∧ n ≤ _ := of_decide_eq_true h
    interval_cases n <;> rfl
  | evNop | evUs | evQd | evUsQd => exact .inr (.inr ⟨_, rfl, rfl⟩)
  | evRst d => exact .inr (.inr ⟨_, rfl, by revert d; decide⟩)

/-- Settles O2: the decoder reads back the fields of the format the encoder used. -/
theorem decodeOfEncodeIsTheInstruction : Obligations.DecodeOfEncodeIsTheInstruction := by
  intro i wf
  rcases format_of_wellFormed wf with ⟨a, word, row⟩ | ⟨a, v, word, row⟩ | ⟨b, word, row⟩
  · rw [word, decode_hrWord, row]
  · rw [word, decode_hwWord, row]
  · rw [word, decode_evWord, row]

/-- Settles O3: a decoded word is of a format, and the encoder writes the word of that format again. -/
theorem decodedWordReencodesToItself : Obligations.DecodedWordReencodesToItself := by
  intro w i h
  rcases format_of_decode h with ⟨a, rfl, rfl⟩ | ⟨a, v, rfl, rfl⟩ | ⟨b, rfl, rfl⟩
  · exact (encode_decodeRead a).symm
  · exact (encode_decodeWrite a v).symm
  · exact (encode_decodeEvent b).symm

/-! ## Reserved words -/

/-- A word is RESERVED by its fields: R79(a) to (d). -/
theorem decode_reserved_iff (w : StimulusWord) :
    (∃ why, decode w = .reserved why) ↔
      kindOf w = 3 ∨ ((kindOf w = 0 ∨ kindOf w = 1) ∧ hostZeroOf w ≠ 0) ∨ (kindOf w = 0 ∧ wdataOf w ≠ 0) ∨
        (kindOf w = 2 ∧ eventZeroOf w ≠ 0) := by
  rcases decode_cases w with ⟨hk, hz, hd, hw⟩ | ⟨hk, hz, hw⟩ | ⟨hk, hz, hw⟩ | ⟨hk, hw⟩ | ⟨hk, hz, hw⟩ |
    ⟨hk, hd, hz, hw⟩ | ⟨hk, hz, hw⟩
  · simp [hw, hk, hz, hd]
  · simp [hw, hk, hz]
  · simp [hw, hk, hz]
  · exact iff_of_true ⟨_, hw⟩ (.inl hk)
  · exact iff_of_true ⟨_, hw⟩ (.inr (.inl ⟨hk, hz⟩))
  · exact iff_of_true ⟨_, hw⟩ (.inr (.inr (.inl ⟨hk, hd⟩)))
  · exact iff_of_true ⟨_, hw⟩ (.inr (.inr (.inr ⟨hk, hz⟩)))

theorem kindOf_toNat (w : StimulusWord) : (kindOf w).toNat = w.toNat / 2 ^ 22 := by
  have := w.isLt
  simp only [kindOf, BitVec.extractLsb'_toNat, Nat.shiftRight_eq_div_pow]
  omega

theorem hostZeroOf_toNat (w : StimulusWord) : (hostZeroOf w).toNat = w.toNat / 2 ^ 20 % 4 := by
  simp [hostZeroOf, Nat.shiftRight_eq_div_pow]

theorem wdataOf_toNat (w : StimulusWord) : (wdataOf w).toNat = w.toNat % 2 ^ 16 := by
  simp [wdataOf]

theorem eventZeroOf_toNat (w : StimulusWord) : (eventZeroOf w).toNat = w.toNat % 2 ^ 22 / 8 := by
  simp only [eventZeroOf, BitVec.extractLsb'_toNat, Nat.shiftRight_eq_div_pow]
  omega

/-- Settles O5: the fields that decide RESERVED are the digits of the word's number that R79 speaks of. -/
theorem reservedWordsAreExactlyThoseListed : Obligations.ReservedWordsAreExactlyThoseListed := by
  intro w
  simp only [decode_reserved_iff, Machine.ReservedWord, ← BitVec.toNat_inj, ne_eq, kindOf_toNat, hostZeroOf_toNat,
    wdataOf_toNat, eventZeroOf_toNat]
  rfl

/-! ## The opcode map -/

theorem OpcodeRow.selects_iff {row : OpcodeRow} {w : StimulusWord} :
    row.selects w = true ↔ w &&& row.mask = row.pattern := by
  simp [OpcodeRow.selects]

/-- Two rows that select one word have patterns that agree where both masks look. -/
theorem OpcodeRow.patterns_agree {r q : OpcodeRow} {w : StimulusWord} (hr : r.selects w = true)
    (hq : q.selects w = true) : r.pattern &&& q.mask = q.pattern &&& r.mask := by
  rw [← selects_iff.mp hr, ← selects_iff.mp hq, BitVec.and_assoc, BitVec.and_assoc, BitVec.and_comm r.mask]

/-- The rows of the opcode map are apart: the patterns of two of them differ where both masks look (R77). -/
theorem opcodeRows_apart : ∀ j k : Fin opcodeRows.length,
    opcodeRows[j].pattern &&& opcodeRows[k].mask = opcodeRows[k].pattern &&& opcodeRows[j].mask → j = k := by
  decide

/-- No word selects two rows (R77). -/
theorem selected_row_unique {w : StimulusWord} {j k : Nat} {r q : OpcodeRow} (hj : opcodeRows[j]? = some r)
    (hk : opcodeRows[k]? = some q) (hr : r.selects w = true) (hq : q.selects w = true) : j = k := by
  obtain ⟨hjl, rfl⟩ := List.getElem?_eq_some_iff.mp hj
  obtain ⟨hkl, rfl⟩ := List.getElem?_eq_some_iff.mp hk
  exact congrArg Fin.val (opcodeRows_apart ⟨j, hjl⟩ ⟨k, hkl⟩ (OpcodeRow.patterns_agree hr hq))

/-- The encoding of every well-formed instruction selects its row: the family EncodesItsRow, over all instructions. -/
theorem encode_selects_row (i : Instr) : Laws.EncodesItsRow.Statement i := by
  open Laws.EncodesItsRow in
  cases i with
  | rdCtrl => exact rdCtrl
  | rdTpdStatus => exact rdTpdStatus
  | rdFrameHum => exact rdFrameHum
  | rdFrameTemp => exact rdFrameTemp
  | rdFrameCsum => exact rdFrameCsum
  | rdTempSigned => exact rdTempSigned
  | rdQdStatus => exact rdQdStatus
  | rdMenuState => exact rdMenuState
  | rdMenuConsume => exact rdMenuConsume
  | rdRsvd9 => exact rdRsvd9
  | rdRsvdAB addr => exact rdRsvdAB addr
  | rdRsvdCF addr => exact rdRsvdCF addr
  | wrCtrl wdata => exact wrCtrl wdata
  | wrIgnored1 wdata => exact wrIgnored1 wdata
  | wrIgnored23 addr wdata => exact wrIgnored23 addr wdata
  | wrIgnored47 addr wdata => exact wrIgnored47 addr wdata
  | wrIgnored8F addr wdata => exact wrIgnored8F addr wdata
  | evNop => exact evNop
  | evUs => exact evUs
  | evQd => exact evQd
  | evUsQd => exact evUsQd
  | evRst dontCare => exact evRst dontCare

/-- A field that the row's mask covers holds the pattern's value in every word that selects the row. -/
theorem OpcodeRow.field_of_selects {row : OpcodeRow} {w : StimulusWord} (h : row.selects w = true) {start len : Nat}
    (covered : row.mask.extractLsb' start len = BitVec.allOnes len) :
    w.extractLsb' start len = row.pattern.extractLsb' start len := by
  rw [← selects_iff.mp h, BitVec.extractLsb'_and, covered, BitVec.and_allOnes]

/-- The row is of one of the formats of R71 to R73: its mask covers KIND and the fields that must be zero for that KIND, and
its pattern has them zero. -/
def OpcodeRow.OfAFormat (row : OpcodeRow) : Prop :=
  kindOf row.mask = BitVec.allOnes 2 ∧
  ((kindOf row.pattern = 0 ∧ (hostZeroOf row.mask = BitVec.allOnes 2 ∧ hostZeroOf row.pattern = 0) ∧
      (wdataOf row.mask = BitVec.allOnes 16 ∧ wdataOf row.pattern = 0)) ∨
    (kindOf row.pattern = 1 ∧ hostZeroOf row.mask = BitVec.allOnes 2 ∧ hostZeroOf row.pattern = 0) ∨
    (kindOf row.pattern = 2 ∧ eventZeroOf row.mask = BitVec.allOnes 19 ∧ eventZeroOf row.pattern = 0))

theorem opcodeRows_ofAFormat : ∀ row ∈ opcodeRows, row.OfAFormat := by
  unfold OpcodeRow.OfAFormat
  decide

/-- A word that selects a row of a format is not RESERVED (R76). -/
theorem OpcodeRow.OfAFormat.not_reserved {row : OpcodeRow} (hrow : row.OfAFormat) {w : StimulusWord}
    (h : row.selects w = true) : ¬ ∃ why, decode w = .reserved why := by
  obtain ⟨kindCovered, zeros⟩ := hrow
  have kind : kindOf w = kindOf row.pattern := field_of_selects h kindCovered
  rw [decode_reserved_iff, kind]
  rcases zeros with ⟨hk, ⟨hostCovered, hostZero⟩, dataCovered, dataZero⟩ | ⟨hk, hostCovered, hostZero⟩ |
    ⟨hk, eventCovered, eventZero⟩
  · have host : hostZeroOf w = 0 := (field_of_selects h hostCovered).trans hostZero
    have data : wdataOf w = 0 := (field_of_selects h dataCovered).trans dataZero
    simp [hk, host, data]
  · have host : hostZeroOf w = 0 := (field_of_selects h hostCovered).trans hostZero
    simp [hk, host]
  · have event : eventZeroOf w = 0 := (field_of_selects h eventCovered).trans eventZero
    simp [hk, event]

/-- Settles O4: a decoded word is its instruction's encoding, which selects its row, and no word selects two; a word that
selects a row is not RESERVED. -/
theorem decoderAgreesWithOpcodeMap : Obligations.DecoderAgreesWithOpcodeMap := by
  refine ⟨fun w i h k row hk => ?_, fun w why h row hrow => ?_⟩
  · obtain ⟨wf, rfl⟩ := decodedWordReencodesToItself w i h
    obtain ⟨own, hown, selected⟩ := encode_selects_row i wf
    constructor
    · intro alsoSelected
      exact selected_row_unique hk hown alsoSelected selected
    · rintro rfl
      obtain rfl : own = row := by simpa [hown] using hk
      exact selected
  · by_contra selected
    exact (opcodeRows_ofAFormat row hrow).not_reserved (by simpa using selected) ⟨why, h⟩

/-- Settles O1: the words are concrete, and the decoder computes. -/
theorem specWordsDecodeAsWritten : Obligations.SpecWordsDecodeAsWritten := by
  unfold Obligations.SpecWordsDecodeAsWritten
  decide

end Sys2Proof
end

section
/-! SUPPORT. Cycle records (spec/30_encoding.md R74, R85): port levels ask for one host transaction at most and one event,
and a record of one word runs that word's instruction. -/

namespace Sys2Proof.Machine

/-! ## What the decoded fields ask for -/

@[simp] theorem isEvent_decodeRead (a : RegAddr) : isEvent (decodeRead a) = false := by revert a; decide

@[simp] theorem isEvent_decodeWrite (a : RegAddr) (v : RegWord) : isEvent (decodeWrite a v) = false := by
  rcases a with ⟨⟨n, hn⟩⟩
  interval_cases n <;> rfl

@[simp] theorem isEvent_decodeEvent (b : BitVec 3) : isEvent (decodeEvent b) = true := by revert b; decide

/-- The read row of an address names that address (R78). -/
theorem readAddr_decodeRead (a : RegAddr) (e : Instr) : Cycle.readAddr ⟨some (decodeRead a), e⟩ = some a := by
  rcases a with ⟨⟨n, hn⟩⟩
  interval_cases n <;> rfl

theorem toNat_append_eq_add {m n : Nat} (x : BitVec m) (y : BitVec n) :
    (x ++ y).toNat = x.toNat * 2 ^ n + y.toNat := by
  rw [BitVec.toNat_append, ← Nat.shiftLeft_add_eq_or_of_lt y.isLt, Nat.shiftLeft_eq]

/-- Format HW as a sum of its fields (R72). -/
theorem hwWord_eq_add (a : RegAddr) (v : RegWord) :
    hwWord a v = 0x400000 + a.setWidth 24 * 0x10000 + v.setWidth 24 := by
  have fields : (hwWord a v).toNat = 0x400000 + a.toNat * 0x10000 + v.toNat := by
    simp only [hwWord, toNat_append_eq_add, BitVec.toNat_ofNat]
    omega
  bv_omega

/-! ## Port levels -/

/-- {RST, QD, US} at the levels of the ports (R85). -/
def eventBitsOfInputs (p : CycleInputs) : BitVec 3 :=
  BitVec.ofBool p.rst ++ BitVec.ofBool p.qdTick ++ BitVec.ofBool p.usTick

/-- The operations that port levels ask for. -/
def cycleOfInputs (p : CycleInputs) : Cycle where
  host := if p.busSel then some (if p.busWe then decodeWrite p.busAddr p.busWdata else decodeRead p.busAddr) else none
  ev := decodeEvent (eventBitsOfInputs p)

/-- The record of port levels decodes to what they ask for (R85). -/
theorem fetch_recordOfInputs_eq (p : CycleInputs) : fetch (recordOfInputs p) = .ok (cycleOfInputs p) := by
  have event : fetchEvent (recordOfInputs p).ev = .ok (cycleOfInputs p).ev :=
    fetchEvent_of_decode (decode_evWord _) (isEvent_decodeEvent _)
  have read : fetchHost (hrWord p.busAddr) = .ok (decodeRead p.busAddr) :=
    fetchHost_of_decode (decode_hrWord _) (isEvent_decodeRead _)
  have write : fetchHost (hwWord p.busAddr p.busWdata) = .ok (decodeWrite p.busAddr p.busWdata) :=
    fetchHost_of_decode (decode_hwWord _ _) (isEvent_decodeWrite _ _)
  unfold fetch
  rw [event]
  cases sel : p.busSel <;> cases we : p.busWe <;> simp [recordOfInputs, cycleOfInputs, sel, we, read, write]

theorem hasReset_cycleOfInputs (p : CycleInputs) : (cycleOfInputs p).hasReset = p.rst := by
  simp only [Cycle.hasReset, cycleOfInputs, eventBitsOfInputs]
  cases p.rst <;> cases p.qdTick <;> cases p.usTick <;> rfl

/-- Without reset the strobes of the cycle are those of the ports (R73). -/
theorem strobes_cycleOfInputs {p : CycleInputs} (noReset : p.rst = false) :
    (cycleOfInputs p).hasTick = p.usTick ∧ (cycleOfInputs p).hasSample = p.qdTick := by
  simp only [Cycle.hasTick, Cycle.hasSample, cycleOfInputs, eventBitsOfInputs, noReset]
  cases p.qdTick <;> cases p.usTick <;> exact ⟨rfl, rfl⟩

/-- Settles O7: the cycle is `cycleOfInputs`, and each clause is what one of its fields holds. -/
theorem portLevelsAreALegalRecord : Obligations.PortLevelsAreALegalRecord := by
  intro p
  refine ⟨cycleOfInputs p, fetch_recordOfInputs_eq p, rfl, rfl, fun idle => ?_, fun sel read => ?_, fun sel write => ?_,
    hasReset_cycleOfInputs p, strobes_cycleOfInputs⟩
  · simp [cycleOfInputs, idle]
  · have host : cycleOfInputs p = ⟨some (decodeRead p.busAddr), decodeEvent (eventBitsOfInputs p)⟩ := by
      simp [cycleOfInputs, sel, read]
    rw [host, readAddr_decodeRead]
  · have host : (cycleOfInputs p).host = some (decodeWrite p.busAddr p.busWdata) := by
      simp [cycleOfInputs, sel, write]
    rw [host, Option.map_some, (encode_decodeWrite _ _).1, hwWord_eq_add]

/-! ## A step on one word -/

theorem decode_noEventWord : decode noEventWord = .instr .evNop := by decide

/-- A step on a record with an event word only is the event's instruction. -/
theorem step_of_event {s : State} {i : Instr} (noHost : s.nextRecord.host = none)
    (event : decode s.nextRecord.ev = .instr i) (he : isEvent i = true) :
    step s = exec i (beginCycle s.nextRecord.line s.nextRecord.pins s.stimulus.tail s) := by
  have fetched : fetch s.nextRecord = .ok ⟨none, i⟩ := by
    simp [fetch, noHost, fetchEvent_of_decode event he]
  rw [step_of_fetch fetched]
  rfl

/-- A step on a record with a host word and EV.NOP is the host word's instruction: EV.NOP does nothing after it (R193). -/
theorem step_of_host {s : State} {w : StimulusWord} {i : Instr} (host : s.nextRecord.host = some w)
    (noEvent : s.nextRecord.ev = noEventWord) (hw : decode w = .instr i) (he : isEvent i = false) :
    step s = exec i (beginCycle s.nextRecord.line s.nextRecord.pins s.stimulus.tail s) := by
  have fetched : fetch s.nextRecord = .ok ⟨some i, .evNop⟩ := by
    simp [fetch, host, noEvent, fetchHost_of_decode hw he, fetchEvent_of_decode decode_noEventWord rfl]
  rw [step_of_fetch fetched]
  generalize beginCycle s.nextRecord.line s.nextRecord.pins s.stimulus.tail s = u
  obtain ⟨t, ht⟩ := exec_answers_next i u
  simp [runCycle, isReset, dropTick, ht]

/-- KIND says whether a decoded word is an event (R70). -/
theorem kindOf_lt_two_iff {w : StimulusWord} {i : Instr} (h : decode w = .instr i) :
    (kindOf w).toNat < 2 ↔ isEvent i = false := by
  rcases format_of_decode h with ⟨a, rfl, rfl⟩ | ⟨a, v, rfl, rfl⟩ | ⟨b, rfl, rfl⟩ <;> simp

theorem withFetchWord_eq (s : State) (nbits : Nat) (w : StimulusWord) :
    s.withFetchWord nbits w.toNat = { s with stimulus := recordOfWord w s.line s.pins :: s.stimulus } := by
  simp [State.withFetchWord]

/-- A step after `withFetchWord` of a legal word is that word's instruction (log 1). -/
theorem step_withFetchWord (s : State) (nbits : Nat) {w : StimulusWord} {i : Instr} (h : decode w = .instr i) :
    step (s.withFetchWord nbits w.toNat) = exec i (beginCycle s.line s.pins s.stimulus s) := by
  rw [withFetchWord_eq]
  cases he : isEvent i with
  | false =>
    have kind : (kindOf w).toNat < 2 := (kindOf_lt_two_iff h).mpr he
    have record : recordOfWord w s.line s.pins = ⟨some w, noEventWord, s.line, s.pins⟩ := by simp [recordOfWord, kind]
    rw [record]
    exact step_of_host rfl rfl h he
  | true =>
    have kind : ¬ (kindOf w).toNat < 2 := by simp [kindOf_lt_two_iff h, he]
    have record : recordOfWord w s.line s.pins = ⟨none, w, s.line, s.pins⟩ := by simp [recordOfWord, kind]
    rw [record]
    exact step_of_event rfl h he

/-- Settles O8: an event alone, a host word beside EV.NOP, and a queued word, which is one of the two. -/
theorem stepRunsTheDecodedInstruction : Obligations.StepRunsTheDecodedInstruction :=
  ⟨fun _ _ => step_of_event, fun _ _ _ => step_of_host, fun s nbits _ _ => step_withFetchWord s nbits⟩

end Sys2Proof.Machine
end

section
/-! SUPPORT. One tick of the timing-protocol decoder in each of its states (spec/40_tpd.md R103 to R115), the start of an
attempt (R100), and what the last tick makes of the 40 bits received (R116 to R122). -/

namespace Sys2Proof.Machine

/-! ## Starting an attempt -/

/-- Settles O21: the write is accepted exactly when its START bit is set and the TPD is idle. -/
theorem startBeginsAFreshAttempt : Obligations.StartBeginsAFreshAttempt := by
  intro s v
  rcases hostWrite_cases 0x0 v s with ⟨-, accepted, starts⟩ | ⟨ignored, nothing⟩
  · obtain ⟨startSet, idle⟩ : v.getLsbD 0 = true ∧ s.tpdState = .idle := by
      simpa [startAccepted, startBit] using accepted
    exact ⟨fun _ _ => congrArg Host.Outcome.next starts, fun refused => by simp_all⟩
  · have refused : ¬ (v.getLsbD 0 = true ∧ s.tpdState = .idle) := by
      simpa [startAccepted, startBit] using ignored
    exact ⟨fun startSet idle => absurd ⟨startSet, idle⟩ refused, fun _ => congrArg Host.Outcome.next nothing⟩

/-! ## IDLE and the fixed delays -/

/-- Settles O26: the tick is the identity in IDLE, whatever the line, and the line is driven in START_LOW only. -/
theorem tickInIdleChangesNothing : Obligations.TickInIdleChangesNothing := by
  intro s idle
  refine ⟨by simp [State.dqDriveLow, idle], fun level => ?_⟩
  have idle' : { s with line := level }.tpdState = .idle := idle
  rw [exec_evUs, tpdTick_idle idle']

/-- Settles O27: both states are a Hold (R111). -/
theorem holdTicksCountThenMoveOn : Obligations.HoldTicksCountThenMoveOn := by
  refine fun s => ⟨fun startLow => ?_, fun release => ?_⟩
  · rw [exec_evUs, tpdTick_startLow startLow]; rfl
  · rw [exec_evUs, tpdTick_release release]; rfl

/-! ## The bounded waits -/

/-- A wait whose success is another state, as one equation (R110). -/
theorem wait_goto (target : Level) (budget : BitVec 16) (next : TpdState) (stage : TpdStage) (s : State) :
    wait target budget (.goto next) stage s =
      if s.line = target then enterState next s
      else if s.tpdCnt = budget then endAttempt (timeoutResult stage) stage s else countTick s := rfl

/-- Away from its target level a wait does not look at where it would go. -/
theorem wait_of_line_ne {target : Level} {s : State} (away : s.line ≠ target) (budget : BitVec 16)
    (next next' : WaitNext) (stage : TpdStage) : wait target budget next stage s = wait target budget next' stage s := by
  simp [wait, away]

/-- Settles O28: each state is a Wait with its target, ACK_BUDGET, its next state and its stage (R106 to R108). -/
theorem acknowledgmentTicksSucceedTimeOutOrCount : Obligations.AcknowledgmentTicksSucceedTimeOutOrCount := by
  refine fun s => ⟨fun ack1 => ?_, fun ack2 => ?_, fun ack3 => ?_⟩
  · rw [exec_evUs, tpdTick_ack1 ack1, wait_goto]; rfl
  · rw [exec_evUs, tpdTick_ack2 ack2, wait_goto]; rfl
  · rw [exec_evUs, tpdTick_ack3 ack3, wait_goto]; rfl

/-- A tick of BIT_FALL that does not end the frame is a Wait for the next bit (R115). -/
theorem tpdTick_bitFall_goesOn {s : State} (bitFall : s.tpdState = .bitFall)
    (goesOn : s.line = true ∨ s.tpdBitcnt ≠ 40) :
    tpdTick s = wait false s.params.bitBudget (.goto .bitRise) .bitFall s := by
  rw [tpdTick_bitFall bitFall]
  rcases goesOn with high | notFull
  · exact wait_of_line_ne (by simp [high]) _ _ _ _
  · rcases afterBitFall_cases s with ⟨full, -⟩ | ⟨-, next⟩
    · exact absurd full notFull
    · rw [next]

/-- Settles O29: BIT_RISE is a Wait, and so is BIT_FALL where the frame does not end. -/
theorem bitWaitTicksSucceedTimeOutOrCount : Obligations.BitWaitTicksSucceedTimeOutOrCount := by
  refine fun s => ⟨fun bitRise => ?_, fun bitFall goesOn => ?_⟩
  · rw [exec_evUs, tpdTick_bitRise bitRise, wait_goto]; rfl
  · rw [exec_evUs, tpdTick_bitFall_goesOn bitFall goesOn, wait_goto]; rfl

/-! ## Sampling a bit -/

/-- The shift register as a number: twice as much, the new bit below it, the oldest bit lost (R114). -/
theorem sampleBit_tpdShreg_toNat (b : Level) (s : State) :
    (sampleBit b s).tpdShreg.toNat = (2 * s.tpdShreg.toNat + b.toNat) % 2 ^ 40 := by
  have := b.toNat_lt
  rw [sampleBit_tpdShreg, toNat_append_eq_add, BitVec.extractLsb'_toNat, Nat.shiftRight_zero, BitVec.toNat_ofBool]
  omega

/-- Settles O30: SampleAfterOffset samples on its last tick and counts before it (R113). -/
theorem delayTicksSampleOnTheLast : Obligations.DelayTicksSampleOnTheLast := by
  intro s bitDelay
  rw [exec_evUs, tpdTick_bitDelay bitDelay]
  rcases sampleAfterOffset_cases s with ⟨last, samples⟩ | ⟨notLast, counts⟩
  · exact ⟨absurd last, fun _ => ⟨_, congrArg Host.Outcome.next samples, sampleBit_tpdShreg_toNat s.line s⟩⟩
  · exact ⟨fun _ => congrArg Host.Outcome.next counts, fun last => absurd last notLast⟩

/-! ## The end of a frame -/

/-- The line low after the 40th bit ends the frame (R115). -/
theorem tpdTick_finishes {s : State} (bitFall : s.tpdState = .bitFall) (full : s.tpdBitcnt = 40)
    (low : s.line = false) : tpdTick s = finish s := by
  rw [tpdTick_bitFall bitFall]
  simp [wait, low, afterBitFall, full]

/-- What Finish leaves in the fields it writes (R117 to R122). -/
structure FinishResult (s t : State) : Prop where
  tpdState : t.tpdState = .idle
  tpdCnt : t.tpdCnt = 0
  tpdShreg : t.tpdShreg = s.tpdShreg
  tpdBitcnt : t.tpdBitcnt = s.tpdBitcnt
  tpdDone : t.tpdDone = true
  tpdStage : t.tpdStage = .none
  frameHum : t.frameHum = humidityRaw s.tpdShreg
  frameTemp : t.frameTemp = temperatureRaw s.tpdShreg
  frameRxCsum : t.frameRxCsum = frameByte4 s.tpdShreg
  frameCalcCsum : t.frameCalcCsum = checksumOf s.tpdShreg
  tpdResult : t.tpdResult = if frameValid s.tpdShreg then .ok else .checksumMismatch
  tempSigned : t.tempSigned =
    if frameValid s.tpdShreg then BitVec.ofInt 16 (temperatureTenths (temperatureRaw s.tpdShreg)) else s.tempSigned

theorem finish_result (s : State) : FinishResult s (finish s) := by
  rcases finish_cases s with ⟨valid, ok⟩ | ⟨invalid, mismatch⟩
  · rw [ok]
    exact ⟨rfl, rfl, rfl, rfl, rfl, rfl, rfl, rfl, rfl, rfl, by simp [valid], by simp [valid, writeTemperature]⟩
  · rw [mismatch]
    exact ⟨rfl, rfl, rfl, rfl, rfl, rfl, rfl, rfl, rfl, rfl, by simp [invalid], by simp [invalid]⟩

/-- The bytes of a frame, the first the most significant (R116). -/
structure FrameBytes (shreg : BitVec 40) (b0 b1 b2 b3 b4 : Byte) : Prop where
  byte0 : frameByte0 shreg = b0
  byte1 : frameByte1 shreg = b1
  byte2 : frameByte2 shreg = b2
  byte3 : frameByte3 shreg = b3
  byte4 : frameByte4 shreg = b4

/-- The digits of the shift register to the base 256 are the bytes of the frame (R116). -/
theorem frameBytes_of_toNat {shreg : BitVec 40} {b0 b1 b2 b3 b4 : Byte}
    (value : shreg.toNat = (((b0.toNat * 256 + b1.toNat) * 256 + b2.toNat) * 256 + b3.toNat) * 256 + b4.toNat) :
    FrameBytes shreg b0 b1 b2 b3 b4 := by
  constructor <;> apply BitVec.eq_of_toNat_eq <;>
    simp only [frameByte0, frameByte1, frameByte2, frameByte3, frameByte4, BitVec.extractLsb'_toNat,
      Nat.shiftRight_eq_div_pow, value] <;>
    omega

/-- A sign-magnitude word as two's complement: bit 15 the sign, bits 14:0 the magnitude (R119). -/
theorem toInt_ofInt_temperatureTenths (raw : RegWord) :
    (BitVec.ofInt 16 (temperatureTenths raw)).toInt =
      if raw.toNat < 2 ^ 15 then (raw.toNat : Int) else -((raw.toNat - 2 ^ 15 : Nat) : Int) := by
  have := raw.isLt
  have sign : raw.getLsbD 15 = decide (2 ^ 15 ≤ raw.toNat) := by
    rw [← BitVec.msb_eq_decide raw, BitVec.msb_eq_getLsbD_last]
  have magnitude : (raw.extractLsb' 0 15).toNat = raw.toNat % 2 ^ 15 := by simp
  have range (n : Int) (least : -2 ^ 15 ≤ n) (most : n < 2 ^ 15) : (BitVec.ofInt 16 n).toInt = n := by
    rw [BitVec.toInt_ofInt]
    exact Int.bmod_eq_of_le (by omega) (by omega)
  rw [temperatureTenths, sign, magnitude, range _ (by split <;> omega) (by split <;> omega)]
  by_cases positive : raw.toNat < 2 ^ 15
  · simp only [positive, not_le.2 positive, decide_false, if_true, Bool.false_eq_true, if_false, Nat.mod_eq_of_lt]
  · simp only [positive, not_lt.1 positive, decide_true, if_true, if_false]
    omega

/-- Settles O31: the tick is Finish, and the register words and the checksum are numbers made of the frame's bytes. -/
theorem finishTickValidatesAndDecodes : Obligations.FinishTickValidatesAndDecodes := by
  intro s b0 b1 b2 b3 b4 bitFall full low value
  obtain ⟨byte0, byte1, byte2, byte3, byte4⟩ := frameBytes_of_toNat value
  obtain ⟨sameQd, sameMenu, sameRest⟩ := tpdTick_frame s
  rw [tpdTick_finishes bitFall full low] at sameQd sameMenu sameRest
  obtain ⟨state, cnt, shreg, bitcnt, done, stage, hum, temp, received, computed, result, signed⟩ := finish_result s
  have humidity : (humidityRaw s.tpdShreg).toNat = b0.toNat * 256 + b1.toNat := by
    rw [humidityRaw, byte0, byte1]
    exact toNat_append_eq_add b0 b1
  have temperature : (temperatureRaw s.tpdShreg).toNat = b2.toNat * 256 + b3.toNat := by
    rw [temperatureRaw, byte2, byte3]
    exact toNat_append_eq_add b2 b3
  have checksum : (checksumOf s.tpdShreg).toNat = (b0.toNat + b1.toNat + b2.toNat + b3.toNat) % 256 := by
    rw [checksumOf, byte0, byte1, byte2, byte3, BitVec.toNat_ofNat]
  have valid : frameValid s.tpdShreg = true ↔ (b0.toNat + b1.toNat + b2.toNat + b3.toNat) % 256 = b4.toNat := by
    rw [frameValid, beq_iff_eq, byte4, ← BitVec.toNat_inj, checksum]
  refine ⟨finish s, congrArg Host.Outcome.next (tpdTick_finishes bitFall full low), sameQd, sameMenu, sameRest, state,
    cnt, shreg, bitcnt, done, stage, by rw [hum, humidity], by rw [temp, temperature], by rw [received, byte4],
    by rw [computed, checksum], ?_⟩
  simp only [valid] at result signed
  split at result
  · next ok =>
    rw [if_pos ok] at signed ⊢
    refine ⟨result, ?_⟩
    rw [signed, toInt_ofInt_temperatureTenths, temperature]
    have := b3.isLt
    split <;> split <;> omega
  · next mismatch =>
    rw [if_neg mismatch] at signed ⊢
    exact ⟨result, signed⟩

/-! ## Corruption of a byte -/

/-- Flipping bits of byte `k` changes that byte of the shift register and no other (bytes counted from the last). -/
theorem extractByte_xor_shiftLeft (shreg : BitVec 40) (m : Byte) {j k : Nat} (hj : j < 5) (hk : k < 5) :
    (shreg ^^^ (m.setWidth 40 <<< (8 * k))).extractLsb' (8 * j) 8 =
      shreg.extractLsb' (8 * j) 8 ^^^ if j = k then m else 0 := by
  ext i hi
  rcases lt_trichotomy j k with lt | rfl | gt
  · have : 8 * j + i < 8 * k := by omega
    simp [lt.ne, this]
  · have : 8 * j + i < 40 := by omega
    simp [this, BitVec.getLsbD_eq_getElem hi]
  · have : 8 ≤ 8 * j + i - 8 * k := by omega
    simp [gt.ne', this]

/-- The checksum matches when the bytes before it add up to it modulo 256 (R117). -/
theorem frameValid_iff {shreg : BitVec 40} {b0 b1 b2 b3 b4 : Byte} (bytes : FrameBytes shreg b0 b1 b2 b3 b4) :
    frameValid shreg = true ↔ b0 + b1 + b2 + b3 = b4 := by
  obtain ⟨rfl, rfl, rfl, rfl, rfl⟩ := bytes
  simp [frameValid, checksumOf, BitVec.ofNat_add]

/-- A valid frame with one byte corrupted is not valid: each byte stands once in the sum or beside it (R117). -/
theorem frameValid_corrupted {shreg : BitVec 40} {k : Nat} {m : Byte} (valid : frameValid shreg = true) (hk : k < 5)
    (hm : m ≠ 0) : frameValid (shreg ^^^ (m.setWidth 40 <<< (8 * k))) = false := by
  have byte {j : Nat} (hj : j < 5) := extractByte_xor_shiftLeft shreg m hj hk
  have bytes := FrameBytes.mk (byte (j := 4) (by decide)) (byte (j := 3) (by decide)) (byte (j := 2) (by decide))
    (byte (j := 1) (by decide)) (byte (j := 0) (by decide))
  have sum := (frameValid_iff ⟨rfl, rfl, rfl, rfl, rfl⟩).1 valid
  have changed (b : Byte) : b ≠ b ^^^ m := fun same => hm (by simpa using same.symm)
  rw [Bool.eq_false_iff, ne_eq, frameValid_iff bytes]
  unfold frameByte0 frameByte1 frameByte2 frameByte3 frameByte4 at sum
  interval_cases k <;> simp [← sum, changed, show m ≠ 0#8 from hm]

/-- Settles O51: OK says that the frame is valid, and Finish finds the corrupted one not to be. -/
theorem singleByteCorruptionIsDetected : Obligations.SingleByteCorruptionIsDetected := by
  intro s t k m bitFall full low ticks ok hk hm
  have valid : frameValid s.tpdShreg = true := by
    rw [exec_evUs, tpdTick_finishes bitFall full low] at ticks
    cases ticks
    by_contra invalid
    simp [(finish_result s).tpdResult, invalid] at ok
  refine ⟨_, congrArg Host.Outcome.next (tpdTick_finishes (by exact bitFall) (by exact full) (by exact low)), ?_⟩
  rw [(finish_result _).tpdResult, frameValid_corrupted valid hk hm]
  rfl

end Sys2Proof.Machine
end

section
/-! SUPPORT. What the TPD fields depend on and what changes them: the parts of a cycle that write them (spec/40_tpd.md
R101), how an attempt begins and ends (R123, R125), which inputs a tick reads (R103 to R105, R109, R113, R126), and what
the host reads of them during an attempt (R240). -/

namespace Sys2Proof.Machine

theorem SameTpd.refl (s : State) : SameTpd s s := ⟨rfl, rfl, rfl, rfl, rfl, rfl, rfl, rfl, rfl, rfl, rfl, rfl⟩

theorem SameTpd.trans {s t u : State} (hst : SameTpd s t) (htu : SameTpd t u) : SameTpd s u where
  tpdState := htu.tpdState.trans hst.tpdState
  tpdCnt := htu.tpdCnt.trans hst.tpdCnt
  tpdShreg := htu.tpdShreg.trans hst.tpdShreg
  tpdBitcnt := htu.tpdBitcnt.trans hst.tpdBitcnt
  tpdDone := htu.tpdDone.trans hst.tpdDone
  tpdResult := htu.tpdResult.trans hst.tpdResult
  tpdStage := htu.tpdStage.trans hst.tpdStage
  frameHum := htu.frameHum.trans hst.frameHum
  frameTemp := htu.frameTemp.trans hst.frameTemp
  frameRxCsum := htu.frameRxCsum.trans hst.frameRxCsum
  frameCalcCsum := htu.frameCalcCsum.trans hst.frameCalcCsum
  tempSigned := htu.tempSigned.trans hst.tempSigned

theorem SameTpd.busy {s t : State} (same : SameTpd s t) : t.busy = s.busy := by simp [State.busy, same.tpdState]

/-- Settles O35: the frame of a tick. -/
theorem tickCompletesAndTouchesOnlyTpd : Obligations.TickCompletesAndTouchesOnlyTpd :=
  fun s => ⟨tpdTick s, exec_evUs s, tpdTick_frame s⟩

/-! ## The parts of a cycle that write the TPD fields -/

theorem hostRead_sameTpd (a : RegAddr) (s : State) : SameTpd s (hostRead a s) := by
  rcases hostRead_cases a s with ⟨-, consumed⟩ | ⟨-, plain⟩
  · rw [consumed]; exact ⟨rfl, rfl, rfl, rfl, rfl, rfl, rfl, rfl, rfl, rfl, rfl, rfl⟩
  · rw [plain]; exact ⟨rfl, rfl, rfl, rfl, rfl, rfl, rfl, rfl, rfl, rfl, rfl, rfl⟩

/-- A host transaction of the opcode map is a START that the state accepts, or leaves the TPD fields alone (R101): the
rows whose address is an operand do not range over CTRL. -/
theorem exec_host_tpd {i : Instr} {s u : State} (isHost : isEvent i = false) (wf : i.wellFormed = true)
    (runs : exec i s = .next u) :
    (acceptsStart i s = true ∧ SameTpd (startAttempt s) u) ∨ (acceptsStart i s = false ∧ SameTpd s u) := by
  cases i with
  | rdCtrl | rdTpdStatus | rdFrameHum | rdFrameTemp | rdFrameCsum | rdTempSigned | rdQdStatus | rdMenuState
  | rdMenuConsume | rdRsvd9 | rdRsvdAB | rdRsvdCF => cases runs; exact .inr ⟨rfl, hostRead_sameTpd _ s⟩
  | wrCtrl v =>
    cases runs
    rcases hostWrite_cases 0x0 v s with ⟨-, accepted, starts⟩ | ⟨ignored, nothing⟩
    · exact .inl ⟨accepted, by rw [starts]; exact .refl _⟩
    · have notAccepted : startAccepted v s = false := by simpa using ignored
      exact .inr ⟨notAccepted, by rw [nothing]; exact .refl s⟩
  | wrIgnored1 v => cases runs; exact .inr ⟨rfl, .refl s⟩
  | wrIgnored23 a v | wrIgnored47 a v | wrIgnored8F a v =>
    cases runs
    have notCtrl : a ≠ 0x0 := by rintro rfl; simp [Instr.wellFormed] at wf
    exact .inr ⟨rfl, by rw [hostWrite_of_ne_ctrl notCtrl]; exact .refl s⟩
  | evNop | evUs | evQd | evUsQd | evRst => cases isHost

/-- What a cycle can do to the TPD fields of `s`: leave them, begin an attempt, tick, or reset them (R101). -/
inductive TpdForm (c : Cycle) (s : State) : State → Prop where
  | keeps {t : State} (noTick : c.hasTick = false) (same : SameTpd s t) : TpdForm c s t
  | starts {t : State} (started : c.starts s = true) (same : SameTpd (startAttempt s) t) : TpdForm c s t
  | ticks {u : State} (ticked : c.hasTick = true) (same : SameTpd s u) : TpdForm c s (tpdTick u)
  | resets {u : State} (reset : c.hasReset = true) : TpdForm c s (resetState u)

/-- An event on its own leaves the TPD fields alone, is one tick of them, or resets them. -/
theorem exec_event_form {host : Option Instr} {e : Instr} {s u t : State} (event : isEvent e = true)
    (same : SameTpd s u) (runs : exec e u = .next t) : TpdForm ⟨host, e⟩ s t := by
  cases e with
  | evNop => cases runs; exact .keeps rfl same
  | evUs => cases runs; exact .ticks rfl same
  | evQd => cases runs; exact .keeps rfl (same.trans (qdSample_frame u).1)
  | evUsQd => cases runs; exact .ticks rfl (same.trans (qdSample_frame u).1)
  | evRst => cases runs; exact .resets rfl
  | _ => cases event

/-- An event whose tick is dropped, and which is no reset, leaves the TPD fields alone (43_host_bus.md R200(b)). -/
theorem exec_dropTick_sameTpd {e : Instr} {u t : State} (event : isEvent e = true) (noReset : isReset e = false)
    (runs : exec (dropTick e) u = .next t) : SameTpd u t := by
  cases e with
  | evNop | evUs => cases runs; exact .refl u
  | evQd | evUsQd => cases runs; exact (qdSample_frame u).1
  | evRst => cases noReset
  | _ => cases event

/-- `start_acc` is the same in the cycle and in the instruction (43_host_bus.md R200). -/
theorem starts_of_acceptsStart {c : Cycle} {i : Instr} {s : State} (host : c.host = some i)
    (accepted : acceptsStart i s = true) : c.starts s = true := by
  cases i with
  | wrCtrl v => simpa [Cycle.starts, host, acceptsStart, startAccepted, startBit] using accepted
  | _ => cases accepted

/-- Every cycle of a legal record has one of the forms (R101, 43_host_bus.md R200). -/
theorem runCycle_form {r : CycleRecord} {c : Cycle} {s t : State} (fetched : fetch r = .ok c)
    (runs : runCycle c s = .next t) : TpdForm c s t := by
  obtain ⟨⟨-, event⟩, host⟩ := fetch_ok fetched
  rcases runCycle_cases c s with ⟨-, eventAlone⟩ | ⟨i, u, hostIs, noReset, hostRuns, hostThenEvent⟩
  · exact exec_event_form event (.refl s) (eventAlone.symm.trans runs)
  · rw [hostThenEvent] at runs
    rcases host with ⟨-, noHost⟩ | ⟨w, j, -, hostIs', decoded, isHost⟩
    · rw [noHost] at hostIs
      cases hostIs
    · obtain rfl : i = j := by simpa [hostIs] using hostIs'
      rcases exec_host_tpd isHost (wellFormed_of_decode decoded) hostRuns with ⟨accepted, begun⟩ | ⟨ignored, kept⟩
      · rw [if_pos accepted] at runs
        exact .starts (starts_of_acceptsStart hostIs accepted) (begun.trans (exec_dropTick_sameTpd event noReset runs))
      · rw [ignored] at runs
        exact exec_event_form event kept runs

theorem beginCycle_sameTpd (l : Level) (p : Snapshot) (r : List CycleRecord) (s : State) :
    SameTpd s (beginCycle l p r s) := ⟨rfl, rfl, rfl, rfl, rfl, rfl, rfl, rfl, rfl, rfl, rfl, rfl⟩

/-- The inputs that the start of a cycle takes are none of the TPD fields. -/
theorem TpdForm.of_beginCycle {c : Cycle} {l : Level} {p : Snapshot} {r : List CycleRecord} {s t : State}
    (form : TpdForm c (beginCycle l p r s) t) : TpdForm c s t := by
  cases form with
  | keeps noTick same => exact .keeps noTick ((beginCycle_sameTpd l p r s).trans same)
  | starts started same => exact .starts started { same with }
  | ticks ticked same => exact .ticks ticked ((beginCycle_sameTpd l p r s).trans same)
  | resets reset => exact .resets reset

theorem step_form {s t : State} {c : Cycle} (fetched : fetch s.nextRecord = .ok c) (stepped : step s = .next t) :
    TpdForm c s t :=
  (runCycle_form fetched ((step_of_fetch fetched).symm.trans stepped)).of_beginCycle

/-- Settles O36: the other three forms are an accepted START, a tick and a reset. -/
theorem tpdChangesInExactlyThreeWays : Obligations.TpdChangesInExactlyThreeWays := by
  intro s t c fetched stepped noStart noTick noReset
  cases step_form fetched stepped with
  | keeps _ same => exact same
  | starts started => exact absurd (noStart.symm.trans started) nofun
  | ticks ticked => exact absurd (noTick.symm.trans ticked) nofun
  | resets reset => exact absurd (noReset.symm.trans reset) nofun

/-! ## The end of an attempt -/

/-- The TPD is idle with an outcome recorded (R122). -/
structure Ended (s : State) : Prop where
  idle : s.busy = false
  done : s.tpdDone = true
  outcome : s.tpdResult ≠ .none

theorem timeoutResult_cases (stage : TpdStage) :
    timeoutResult stage = .ackTimeout ∨ timeoutResult stage = .bitTimeout := by
  cases stage <;> simp [timeoutResult]

theorem ended_endAttempt {code : TpdResult} (outcome : code ≠ .none) (stage : TpdStage) (s : State) :
    Ended (endAttempt code stage s) := ⟨rfl, rfl, outcome⟩

theorem ended_timeout (stage : TpdStage) (s : State) : Ended (endAttempt (timeoutResult stage) stage s) :=
  ended_endAttempt (by rcases timeoutResult_cases stage with e | e <;> simp [e]) stage s

theorem ended_finish (s : State) : Ended (finish s) := by
  rcases finish_cases s with ⟨-, ok⟩ | ⟨-, mismatch⟩
  · rw [ok]; exact ended_endAttempt (code := .ok) nofun _ _
  · rw [mismatch]; exact ended_endAttempt (code := .checksumMismatch) nofun _ _

theorem hold_busy {n : BitVec 16} {next : TpdState} {s : State} (busy : s.busy = true) (goesOn : next ≠ .idle) :
    (hold n next s).busy = true := by
  rcases hold_cases n next s with ⟨-, moves⟩ | ⟨-, counts⟩
  · rw [moves]; exact (busy_iff _).2 goesOn
  · rw [counts]; exact busy

theorem wait_busy_or_ended {target : Level} {budget : BitVec 16} {next : WaitNext} {stage : TpdStage} {s : State}
    (busy : s.busy = true) (goesOn : next ≠ .goto .idle) :
    (wait target budget next stage s).busy = true ∨ Ended (wait target budget next stage s) := by
  rcases wait_cases target budget next stage s with ⟨-, st, goes, e⟩ | ⟨-, -, e⟩ | ⟨-, -, e⟩ | ⟨-, -, e⟩ <;> rw [e]
  · exact .inl ((busy_iff _).2 fun idle => goesOn (goes.trans (congrArg _ idle)))
  · exact .inr (ended_finish s)
  · exact .inr (ended_timeout stage s)
  · exact .inl busy

/-- A tick of an attempt goes on with it or ends it with an outcome (R123). -/
theorem tpdTick_busy_or_ended {s : State} (busy : s.busy = true) : (tpdTick s).busy = true ∨ Ended (tpdTick s) := by
  cases st : s.tpdState with
  | idle => simp [State.busy, st] at busy
  | startLow => rw [tpdTick_startLow st]; exact .inl (hold_busy busy nofun)
  | release => rw [tpdTick_release st]; exact .inl (hold_busy busy nofun)
  | ack1 => rw [tpdTick_ack1 st]; exact wait_busy_or_ended busy nofun
  | ack2 => rw [tpdTick_ack2 st]; exact wait_busy_or_ended busy nofun
  | ack3 => rw [tpdTick_ack3 st]; exact wait_busy_or_ended busy nofun
  | bitRise => rw [tpdTick_bitRise st]; exact wait_busy_or_ended busy nofun
  | bitDelay =>
    rw [tpdTick_bitDelay st]
    rcases sampleAfterOffset_cases s with ⟨-, samples⟩ | ⟨-, counts⟩
    · rw [samples]; exact .inl rfl
    · rw [counts]; exact .inl busy
  | bitFall =>
    rw [tpdTick_bitFall st]
    refine wait_busy_or_ended busy ?_
    rcases afterBitFall_cases s with ⟨-, e⟩ | ⟨-, e⟩ <;> rw [e] <;> nofun

/-- Settles O38: of the forms only START can begin an attempt, and only a reset or a tick can end one. -/
theorem attemptsBeginByStartAndEndByTick : Obligations.AttemptsBeginByStartAndEndByTick := by
  intro s t c fetched stepped
  cases step_form fetched stepped with
  | keeps _ same =>
    have := same.busy
    exact ⟨by simp_all, by simp_all⟩
  | starts started same =>
    have busy : t.busy = true := same.busy
    exact ⟨fun _ _ => started, by simp [busy]⟩
  | @ticks u ticked same =>
    refine ⟨fun idle busy => ?_, fun busy idle => .inr ⟨ticked, ?_⟩⟩
    · have idle' : u.tpdState = .idle := by simpa [same.busy, idle] using (busy_iff u).not
      rw [tpdTick_idle idle', same.busy, idle] at busy
      cases busy
    · rcases tpdTick_busy_or_ended (same.busy.trans busy) with busy' | ⟨-, done, outcome⟩
      · rw [busy'] at idle
        cases idle
      · exact ⟨done, outcome⟩
  | resets reset => exact ⟨fun _ => nofun, fun _ _ => .inl reset⟩

/-! ## What the tick and the sample read -/

theorem hold_withTpdOf (n : BitVec 16) (next : TpdState) (q s : State) :
    hold n next (q.withTpdOf s) = q.withTpdOf (hold n next s) :=
  (apply_ite q.withTpdOf (s.tpdCnt.toNat + 1 = n.toNat) (enterState next s) (countTick s)).symm

theorem finish_withTpdOf (q s : State) : finish (q.withTpdOf s) = q.withTpdOf (finish s) :=
  (apply_ite q.withTpdOf (frameValid s.tpdShreg = true)
    (endAttempt .ok .none (writeTemperature (writeFrame s))) (endAttempt .checksumMismatch .none (writeFrame s))).symm

section
variable {q s : State}

/-- Of the fields outside the TPD's a wait reads the line. -/
theorem wait_withTpdOf (line : q.line = s.line) (target : Level) (budget : BitVec 16) (next : WaitNext)
    (stage : TpdStage) :
    wait target budget next stage (q.withTpdOf s) = q.withTpdOf (wait target budget next stage s) := by
  unfold wait
  rw [apply_ite q.withTpdOf, apply_ite q.withTpdOf, withTpdOf_line, line]
  cases next with
  | goto st => rfl
  | finish => rw [← finish_withTpdOf]; rfl

theorem sampleAfterOffset_withTpdOf (line : q.line = s.line) (params : q.params = s.params) :
    sampleAfterOffset (q.withTpdOf s) = q.withTpdOf (sampleAfterOffset s) := by
  unfold sampleAfterOffset
  rw [apply_ite q.withTpdOf, withTpdOf_line, withTpdOf_params, line, params]
  rfl

/-- Of the fields outside the TPD's a tick reads the line and the parameters, and it writes none of them (R126). -/
theorem tpdTick_withTpdOf (line : q.line = s.line) (params : q.params = s.params) :
    tpdTick (q.withTpdOf s) = q.withTpdOf (tpdTick s) := by
  unfold tpdTick
  rw [withTpdOf_tpdState, withTpdOf_params, params]
  cases s.tpdState with
  | idle => rfl
  | startLow | release => exact hold_withTpdOf _ _ q s
  | ack1 | ack2 | ack3 | bitRise | bitFall => exact wait_withTpdOf line _ _ _ _
  | bitDelay => exact sampleAfterOffset_withTpdOf line params

end

/-- A sample neither reads nor writes the TPD fields (R126). -/
theorem qdSample_withTpdOf (s q : State) : qdSample (s.withTpdOf q) = (qdSample s).withTpdOf q := by
  rw [qdSample_eq, qdSample_eq]
  rfl

/-- Settles O39: the tick and the sample commute with exchanging the fields they do not own. -/
theorem tpdAndSamplerAreIndependent : Obligations.TpdAndSamplerAreIndependent := by
  refine ⟨fun s q t line params ticks => ?_, fun s q t samples => ?_⟩
  · cases ticks
    exact congrArg Host.Outcome.next (tpdTick_withTpdOf line params)
  · cases samples
    exact congrArg Host.Outcome.next (qdSample_withTpdOf s q)

/-- The state with the line at another level. -/
def State.withLine (level : Level) (s : State) : State := { s with line := level }

theorem hold_withLine (level : Level) (n : BitVec 16) (next : TpdState) (s : State) :
    hold n next (s.withLine level) = (hold n next s).withLine level :=
  (apply_ite (State.withLine level) (s.tpdCnt.toNat + 1 = n.toNat) (enterState next s) (countTick s)).symm

/-- Before its last tick BIT_DELAY only counts (R113). -/
theorem sampleAfterOffset_of_ne {s : State} (notLast : s.tpdCnt.toNat + 1 ≠ s.params.sampleOffset.toNat) :
    sampleAfterOffset s = countTick s := if_neg notLast

/-- Settles O40: in those states the tick is the identity, a Hold, or a count. -/
theorem tickReadsLineOnlyWhereListed : Obligations.TickReadsLineOnlyWhereListed := by
  intro s t level states ticks
  cases ticks
  have sameState : (s.withLine level).tpdState = s.tpdState := rfl
  refine congrArg Host.Outcome.next (?_ : tpdTick (s.withLine level) = (tpdTick s).withLine level)
  rcases states with idle | startLow | release | ⟨bitDelay, notLast⟩
  · rw [tpdTick_idle idle, tpdTick_idle (sameState.trans idle)]
  · rw [tpdTick_startLow startLow, tpdTick_startLow (sameState.trans startLow)]
    exact hold_withLine level _ _ s
  · rw [tpdTick_release release, tpdTick_release (sameState.trans release)]
    exact hold_withLine level _ _ s
  · rw [tpdTick_bitDelay bitDelay, tpdTick_bitDelay (sameState.trans bitDelay), sampleAfterOffset_of_ne notLast,
      sampleAfterOffset_of_ne (s := s.withLine level) notLast]
    rfl

/-! ## What the host reads during and after an attempt -/

/-- A register without side effect whose word is 0 reads 0x0000 and nothing changes. -/
theorem hostRead_zero {a : RegAddr} {s : State} (notConsume : a ≠ 0x8) (zero : readValue a s = 0) :
    hostRead a s = { s with busRdata := some 0x0000 } := by
  rw [hostRead_of_ne_consume notConsume, zero]
  rfl

/-- Settles O44: the invariant says which result fields are 0, and the words read are made of them. -/
theorem noPartialDataIsExposed : Obligations.NoPartialDataIsExposed := by
  intro s inv
  have tempZero (notOk : s.tpdResult ≠ .ok) : exec .rdTempSigned s = .next { s with busRdata := some 0x0000 } :=
    congrArg Host.Outcome.next (hostRead_zero (by decide) (inv.temp_only_ok notOk))
  refine ⟨fun noData => ?_, fun mismatch => tempZero (by simp [mismatch])⟩
  have noFrame : s.tpdResult.hasFrame = false := by
    rcases noData with busy | ack | bit
    · rw [inv.busy_no_result busy]; rfl
    · rw [ack]; rfl
    · rw [bit]; rfl
  have notOk : s.tpdResult ≠ .ok := by
    intro ok
    rw [ok] at noFrame
    cases noFrame
  obtain ⟨hum, temp, received, computed⟩ := inv.no_frame_zero noFrame
  have csum : frameCsumWord s = 0 := by rw [frameCsumWord, received, computed]; rfl
  simp only [List.forall_mem_cons]
  exact ⟨congrArg Host.Outcome.next (hostRead_zero (by decide) hum),
    congrArg Host.Outcome.next (hostRead_zero (by decide) temp),
    congrArg Host.Outcome.next (hostRead_zero (by decide) csum), tempZero notOk, nofun⟩

end Sys2Proof.Machine
end

section
/-! SUPPORT. Every attempt ends (spec/40_tpd.md R123): the ticks an attempt still has at most go down with each tick, and
at its beginning they are the longest attempt of 70_reset_and_hazards.md R250. -/

namespace Sys2Proof.Machine

/-! ## The ticks an attempt still has -/

/-- The most ticks one bit takes: the rise wait, the delay and the fall wait (R250). -/
def longestBit (p : Params) : Nat := p.sampleOffset.toNat + 2 * p.bitBudget.toNat + 2

/-- The most ticks the attempt takes after the current TPD state. -/
def ticksAfter (s : State) : Nat :=
  match s.tpdState with
  | .idle => 0
  | .startLow => s.params.tRelease.toNat + 3 * (s.params.ackBudget.toNat + 1) + 40 * longestBit s.params
  | .release => 3 * (s.params.ackBudget.toNat + 1) + 40 * longestBit s.params
  | .ack1 => 2 * (s.params.ackBudget.toNat + 1) + 40 * longestBit s.params
  | .ack2 => s.params.ackBudget.toNat + 1 + 40 * longestBit s.params
  | .ack3 => 40 * longestBit s.params
  | .bitRise =>
    s.params.sampleOffset.toNat + (s.params.bitBudget.toNat + 1) + (39 - s.tpdBitcnt.toNat) * longestBit s.params
  | .bitDelay => s.params.bitBudget.toNat + 1 + (39 - s.tpdBitcnt.toNat) * longestBit s.params
  | .bitFall => (40 - s.tpdBitcnt.toNat) * longestBit s.params

/-- The most ticks the attempt still takes: those left in the current TPD state, and those after it. -/
def ticksLeft (s : State) : Nat := cntBound s - s.tpdCnt.toNat + ticksAfter s

theorem State.Inv.ticksAfter_lt_ticksLeft {s : State} (h : s.Inv) : ticksAfter s < ticksLeft s := by
  have := h.cnt_bounded
  unfold ticksLeft
  omega

/-- At no time an attempt has more ticks left than the longest one has in all (R250). -/
theorem State.Inv.ticksLeft_le {s : State} (h : s.Inv) (busy : s.busy = true) :
    ticksLeft s ≤ longestAttempt s.params := by
  have least := h.bitcnt_least
  have bits {n k : Nat} (le : n ≤ k) : n * longestBit s.params ≤ k * longestBit s.params := Nat.mul_le_mul_right _ le
  have := bits (n := 39 - s.tpdBitcnt.toNat) (k := 39) (by omega)
  cases st : s.tpdState with
  | idle => simp [State.busy, st] at busy
  | bitFall =>
    simp only [bitcntLeast, st] at least
    have := bits (n := 40 - s.tpdBitcnt.toNat) (k := 39) (by omega)
    simp only [ticksLeft, ticksAfter, cntBound, st, longestAttempt]
    unfold longestBit at *
    omega
  | _ =>
    simp only [ticksLeft, ticksAfter, cntBound, st, longestAttempt]
    unfold longestBit at *
    omega

/-! ## Each tick takes one of them -/

/-- A tick from `s` to `t` either ends the attempt or leaves it fewer ticks. -/
def Progress (s t : State) : Prop := Ended t ∨ (t.busy = true ∧ ticksLeft t < ticksLeft s)

/-- A tick counted leaves one tick fewer in the current TPD state. -/
theorem countTick_progress {s : State} (h : s.Inv) (busy : s.busy = true) (noWrap : s.tpdCnt.toNat + 1 < 2 ^ 16) :
    Progress s (countTick s) := by
  have cnt := h.cnt_bounded
  have counted : (countTick s).tpdCnt.toNat = s.tpdCnt.toNat + 1 := by simpa [BitVec.toNat_add] using noWrap
  have bound : cntBound (countTick s) = cntBound s := rfl
  have after : ticksAfter (countTick s) = ticksAfter s := rfl
  refine .inr ⟨busy, ?_⟩
  unfold ticksLeft
  omega

/-- A state entered takes no more ticks than were to come after the one left. -/
theorem progress_of_entered {s t : State} (h : s.Inv) (busy : t.busy = true)
    (fits : ticksLeft t ≤ ticksAfter s) : Progress s t :=
  .inr ⟨busy, fits.trans_lt h.ticksAfter_lt_ticksLeft⟩

theorem hold_progress {n : BitVec 16} {next : TpdState} {s : State} (h : s.Inv) (busy : s.busy = true)
    (bound : cntBound s = n.toNat) (goesOn : next ≠ .idle) (fits : ticksLeft (enterState next s) ≤ ticksAfter s) :
    Progress s (hold n next s) := by
  have cnt := h.cnt_bounded
  rcases hold_cases n next s with ⟨-, moves⟩ | ⟨notLast, counts⟩
  · rw [moves]
    exact progress_of_entered h ((busy_iff _).2 goesOn) fits
  · rw [counts]
    exact countTick_progress h busy (by omega)

theorem wait_progress {target : Level} {budget : BitVec 16} {next : WaitNext} {stage : TpdStage} {s : State}
    (h : s.Inv) (busy : s.busy = true) (bound : cntBound s = budget.toNat + 1)
    (entered : ∀ st, next = .goto st → st ≠ .idle ∧ ticksLeft (enterState st s) ≤ ticksAfter s) :
    Progress s (wait target budget next stage s) := by
  have cnt := h.cnt_bounded
  rcases wait_cases target budget next stage s with
    ⟨-, st, goes, e⟩ | ⟨-, -, e⟩ | ⟨-, -, e⟩ | ⟨-, inBudget, e⟩ <;> rw [e]
  · obtain ⟨goesOn, fits⟩ := entered st goes
    exact progress_of_entered h ((busy_iff _).2 goesOn) fits
  · exact .inl (ended_finish s)
  · exact .inl (ended_timeout stage s)
  · have : s.tpdCnt.toNat ≠ budget.toNat := fun same => inBudget (BitVec.eq_of_toNat_eq same)
    exact countTick_progress h busy (by omega)

/-- A wait whose success is another state of the attempt. -/
theorem wait_goto_progress {target : Level} {budget : BitVec 16} {next : TpdState} {stage : TpdStage} {s : State}
    (h : s.Inv) (busy : s.busy = true) (bound : cntBound s = budget.toNat + 1) (goesOn : next ≠ .idle)
    (fits : ticksLeft (enterState next s) ≤ ticksAfter s) :
    Progress s (wait target budget (.goto next) stage s) :=
  wait_progress h busy bound fun _ goes => by cases goes; exact ⟨goesOn, fits⟩

/-- A bit less to come is a longest bit less. -/
theorem bitsLeft_mul_longestBit {n : Nat} (p : Params) (notFull : n ≤ 39) :
    (40 - n) * longestBit p = (39 - n) * longestBit p + (p.sampleOffset.toNat + 2 * p.bitBudget.toNat + 2) := by
  rw [show 40 - n = 39 - n + 1 by omega, Nat.succ_mul, longestBit]

theorem tpdTick_progress {s : State} (h : s.Inv) (busy : s.busy = true) : Progress s (tpdTick s) := by
  have most := h.bitcnt_most
  cases st : s.tpdState with
  | idle => simp [State.busy, st] at busy
  | startLow =>
    rw [tpdTick_startLow st]
    refine hold_progress h busy (by simp [cntBound, st]) nofun ?_
    simp only [ticksLeft, ticksAfter, cntBound, st, enterState_tpdState, enterState_params]
    omega
  | release =>
    rw [tpdTick_release st]
    refine hold_progress h busy (by simp [cntBound, st]) nofun ?_
    simp only [ticksLeft, ticksAfter, cntBound, st, enterState_tpdState, enterState_params]
    omega
  | ack1 =>
    rw [tpdTick_ack1 st]
    refine wait_goto_progress h busy (by simp [cntBound, st]) nofun ?_
    simp only [ticksLeft, ticksAfter, cntBound, st, enterState_tpdState, enterState_params]
    omega
  | ack2 =>
    rw [tpdTick_ack2 st]
    refine wait_goto_progress h busy (by simp [cntBound, st]) nofun ?_
    simp only [ticksLeft, ticksAfter, cntBound, st, enterState_tpdState, enterState_params]
    omega
  | ack3 =>
    simp only [bitcntMost, st] at most
    have noBits : s.tpdBitcnt.toNat = 0 := by omega
    have bits := bitsLeft_mul_longestBit (n := 0) s.params (by omega)
    rw [tpdTick_ack3 st]
    refine wait_goto_progress h busy (by simp [cntBound, st]) nofun ?_
    simp only [ticksLeft, ticksAfter, cntBound, st, enterState_tpdState, enterState_params, enterState_tpdBitcnt,
      noBits]
    omega
  | bitRise =>
    rw [tpdTick_bitRise st]
    refine wait_goto_progress h busy (by simp [cntBound, st]) nofun ?_
    simp only [ticksLeft, ticksAfter, cntBound, st, enterState_tpdState, enterState_params, enterState_tpdBitcnt]
    omega
  | bitDelay =>
    have cnt := h.cnt_bounded
    simp only [cntBound, bitcntMost, st] at cnt most
    rw [tpdTick_bitDelay st]
    rcases sampleAfterOffset_cases s with ⟨-, samples⟩ | ⟨notLast, counts⟩
    · have counted : 40 - (s.tpdBitcnt + 1).toNat = 39 - s.tpdBitcnt.toNat := by bv_omega
      rw [samples]
      refine progress_of_entered h rfl ?_
      simp only [ticksLeft, ticksAfter, cntBound, st, enterState_tpdState, enterState_params, enterState_tpdBitcnt,
        sampleBit_params, sampleBit_tpdBitcnt, counted]
      omega
    · rw [counts]
      exact countTick_progress h busy (by omega)
  | bitFall =>
    simp only [bitcntMost, st] at most
    rw [tpdTick_bitFall st]
    refine wait_progress h busy (by simp [cntBound, st]) fun next goes => ?_
    rcases afterBitFall_cases s with ⟨-, finishes⟩ | ⟨notFull, goesOn⟩
    · rw [finishes] at goes
      cases goes
    · obtain rfl : .bitRise = next := by simpa [goesOn] using goes
      have notForty : s.tpdBitcnt.toNat ≠ 40 := fun e => notFull (BitVec.eq_of_toNat_eq e)
      have bits := bitsLeft_mul_longestBit (n := s.tpdBitcnt.toNat) s.params (by omega)
      refine ⟨nofun, ?_⟩
      simp only [ticksLeft, ticksAfter, cntBound, st, enterState_tpdState, enterState_params, enterState_tpdBitcnt]
      omega

theorem tickAt_inv {s : State} (h : s.Inv) (l : Level) : (tickAt s l).Inv := tpdTick_inv (beginCycle_inv h)

/-- The inputs of a cycle do not change what the attempt has left. -/
theorem tickAt_progress {s : State} (h : s.Inv) (busy : s.busy = true) (l : Level) : Progress s (tickAt s l) :=
  tpdTick_progress (s := beginCycle l 0 s.stimulus s) (beginCycle_inv h) busy

/-! ## The end of every attempt -/

/-- Along as many ticks as the attempt has left, at any levels, it ends. -/
theorem ends_within_ticksLeft {s : State} {levels : List Level} (h : s.Inv) (busy : s.busy = true)
    (enough : ticksLeft s ≤ levels.length) : ∃ k, k ≤ levels.length ∧ Ended (ticksAt s (levels.take k)) := by
  induction levels generalizing s with
  | nil =>
    have := h.ticksAfter_lt_ticksLeft
    rw [List.length_nil] at enough
    omega
  | cons l levels ih =>
    rw [List.length_cons] at enough ⊢
    rcases tickAt_progress h busy l with ended | ⟨busy', fewer⟩
    · exact ⟨1, by omega, ended⟩
    · obtain ⟨k, le, ended⟩ := ih (tickAt_inv h l) busy' (by omega)
      exact ⟨k + 1, by omega, ended⟩

/-- Settles O47: an attempt has at most the longest attempt's ticks left. -/
theorem everyAttemptEndsInTime : Obligations.EveryAttemptEndsInTime := by
  intro s levels inv busy length
  obtain ⟨k, le, idle, done, outcome⟩ := ends_within_ticksLeft inv busy (length ▸ inv.ticksLeft_le busy)
  exact ⟨k, _, le, afterSteps_withTicks_take le, idle, done, outcome⟩

end Sys2Proof.Machine
end

section
/-! SUPPORT. The waveform of an attempt that ends OK (spec/40_tpd.md R127), both ways: an attempt is a sequence of phases,
each with the line levels that take it to the next one; such levels do so (`Phase.leads`), and an attempt that ends OK can
only begin with such levels (`Phase.only`). Each kind of phase, a fixed delay (R111, R113) and a bounded wait (R110), is
proved once, and the attempt is put together from them. -/

namespace Sys2Proof.Machine

/-! ## Ticks during which the TPD is busy -/

/-- The TPD is busy before each of the ticks at these levels. -/
def BusyThrough : State → List Level → Prop
  | _, [] => True
  | s, l :: ls => s.busy = true ∧ BusyThrough (tickAt s l) ls

@[simp] theorem busyThrough_nil (s : State) : BusyThrough s [] := trivial

@[simp] theorem busyThrough_cons (s : State) (l : Level) (ls : List Level) :
    BusyThrough s (l :: ls) ↔ s.busy = true ∧ BusyThrough (tickAt s l) ls := Iff.rfl

theorem ticksAt_append (s : State) (a b : List Level) : ticksAt s (a ++ b) = ticksAt (ticksAt s a) b :=
  List.foldl_append

theorem busyThrough_append {s : State} {a b : List Level} :
    BusyThrough s (a ++ b) ↔ BusyThrough s a ∧ BusyThrough (ticksAt s a) b := by
  induction a generalizing s with
  | nil => simp
  | cons l a ih => simp [ih, and_assoc]

theorem BusyThrough.busy_at {s : State} {ls : List Level} (busy : BusyThrough s ls) {k : Nat} (lt : k < ls.length) :
    (ticksAt s (ls.take k)).busy = true := by
  induction ls generalizing s k with
  | nil => cases lt
  | cons l ls ih =>
    cases k with
    | zero => exact busy.1
    | succ k => exact ih busy.2 (Nat.lt_of_succ_lt_succ lt)

theorem BusyThrough.eq_nil_of_idle {s : State} {ls : List Level} (busy : BusyThrough s ls) (idle : s.busy = false) :
    ls = [] := by
  cases ls with
  | nil => rfl
  | cons l ls => exact absurd (idle.symm.trans busy.1) nofun

/-- A run of ticks in which no state is idle is busy before each of them. -/
theorem busyThrough_of_countAlong {s : State} {ls : List Level}
    (never : countAlong (fun u => !u.busy) ls.length (s.withTicks ls) = 0) : BusyThrough s ls := by
  induction ls generalizing s with
  | nil => trivial
  | cons l ls ih =>
    rw [List.length_cons, countAlong, step_withTicks_cons] at never
    obtain ⟨now, later⟩ := Nat.add_eq_zero_iff.1 never
    have busy : (s.withTicks (l :: ls)).busy = true := by simpa using now
    exact ⟨busy, ih later⟩

/-- The ticks at these levels are those of an attempt that ends OK on the last of them. -/
def EndsOk (s : State) (ls : List Level) : Prop := BusyThrough s ls ∧ (ticksAt s ls).tpdResult = .ok

theorem EndsOk.after {s : State} {a b : List Level} (ends : EndsOk s (a ++ b)) : EndsOk (ticksAt s a) b :=
  ⟨(busyThrough_append.1 ends.1).2, ticksAt_append s a b ▸ ends.2⟩

/-- Once idle without OK, an attempt does not end OK. -/
theorem not_endsOk_of_idle {s : State} (idle : s.busy = false) (notOk : s.tpdResult ≠ .ok) (ls : List Level) :
    ¬ EndsOk s ls := by
  rintro ⟨busy, ok⟩
  obtain rfl := busy.eq_nil_of_idle idle
  exact notOk ok

/-! ## Phases -/

/-- A phase of an attempt takes a state with `P` to one with `Q`: the waveforms `a` that fit lead from `P` to `Q a`, and
an attempt that ends OK from `P` begins with one of them. -/
structure Phase {α : Type} (P : State → Prop) (fits : α → Prop) (levels : α → List Level) (Q : α → State → Prop) :
    Prop where
  leads : ∀ a, fits a → ∀ s, P s → BusyThrough s (levels a) ∧ Q a (ticksAt s (levels a))
  only : ∀ s ls, P s → EndsOk s ls → ∃ a rest, fits a ∧ ls = levels a ++ rest

section
variable {α β : Type} {P : State → Prop} {F : α → Prop} {A : α → List Level} {Q : α → State → Prop}
  {G : β → Prop} {B : β → List Level}

/-- One phase after another. -/
theorem Phase.seq {R : α → β → State → Prop} (first : Phase P F A Q) (second : ∀ a, F a → Phase (Q a) G B (R a)) :
    Phase P (fun x : α × β => F x.1 ∧ G x.2) (fun x => A x.1 ++ B x.2) (fun x => R x.1 x.2) where
  leads := fun ⟨a, b⟩ ⟨fa, gb⟩ s h => by
    obtain ⟨busyA, reached⟩ := first.leads a fa s h
    obtain ⟨busyB, done⟩ := (second a fa).leads b gb _ reached
    exact ⟨busyThrough_append.2 ⟨busyA, busyB⟩, by rwa [ticksAt_append]⟩
  only := fun s ls h ends => by
    obtain ⟨a, rest, fa, rfl⟩ := first.only s ls h ends
    obtain ⟨-, reached⟩ := first.leads a fa s h
    obtain ⟨b, rest, gb, rfl⟩ := (second a fa).only _ rest reached ends.after
    exact ⟨(a, b), rest, ⟨fa, gb⟩, (List.append_assoc _ _ _).symm⟩

/-- The same phase with its waveforms written in another way. -/
theorem Phase.reshape {R : β → State → Prop} (phase : Phase P F A Q)
    (ofNew : ∀ b, G b → ∃ a, F a ∧ A a = B b ∧ ∀ s, Q a s → R b s) (ofOld : ∀ a, F a → ∃ b, G b ∧ B b = A a) :
    Phase P G B R where
  leads := fun b gb s h => by
    obtain ⟨a, fa, same, weaker⟩ := ofNew b gb
    obtain ⟨busy, reached⟩ := phase.leads a fa s h
    exact same ▸ ⟨busy, weaker _ reached⟩
  only := fun s ls h ends => by
    obtain ⟨a, rest, fa, rfl⟩ := phase.only s ls h ends
    obtain ⟨b, gb, same⟩ := ofOld a fa
    exact ⟨b, rest, gb, by rw [same]⟩

end

/-! ## A state in the middle of an attempt -/

/-- An attempt in this TPD state with `n` ticks counted in it and these bits received, the first one first. -/
structure Receiving (p : Params) (st : TpdState) (n : Nat) (bits : List Level) (s : State) : Prop where
  params : s.params = p
  tpdState : s.tpdState = st
  tpdCnt : s.tpdCnt.toNat = n
  tpdShreg : s.tpdShreg = BitVec.ofNat 40 (bitsValue bits)
  tpdBitcnt : s.tpdBitcnt = BitVec.ofNat 6 bits.length
  tpdResult : s.tpdResult = .none

section
variable {p : Params} {st next : TpdState} {n : Nat} {bits : List Level} {s : State}

theorem receiving_startAttempt (s : State) : Receiving s.params .startLow 0 [] (startAttempt s) :=
  ⟨rfl, rfl, rfl, rfl, rfl, rfl⟩

theorem Receiving.busy (h : Receiving p st n bits s) (attempt : st ≠ .idle) : s.busy = true :=
  (busy_iff s).2 (h.tpdState ▸ attempt)

theorem Receiving.beginCycle (h : Receiving p st n bits s) (l : Level) (ps : Snapshot) (r : List CycleRecord) :
    Receiving p st n bits (beginCycle l ps r s) := { h with }

theorem Receiving.countTick (h : Receiving p st n bits s) (noWrap : n + 1 < 2 ^ 16) :
    Receiving p st (n + 1) bits (countTick s) :=
  { h with
    tpdCnt := by
      rw [countTick_tpdCnt, BitVec.toNat_add, h.tpdCnt]
      exact Nat.mod_eq_of_lt noWrap }

theorem Receiving.enterState (h : Receiving p st n bits s) (next : TpdState) :
    Receiving p next 0 bits (enterState next s) := { h with tpdState := rfl, tpdCnt := rfl }

theorem bitsValue_concat (bits : List Level) (b : Level) : bitsValue (bits ++ [b]) = 2 * bitsValue bits + b.toNat := by
  simp [bitsValue]

/-- The bit sampled becomes the last one received (R114). -/
theorem Receiving.sampleBit (h : Receiving p st n bits s) (b : Level) :
    Receiving p st n (bits ++ [b]) (sampleBit b s) :=
  { h with
    tpdShreg := BitVec.eq_of_toNat_eq (by
      rw [sampleBit_tpdShreg_toNat, h.tpdShreg, bitsValue_concat, BitVec.toNat_ofNat, BitVec.toNat_ofNat]
      omega)
    tpdBitcnt := by
      rw [sampleBit_tpdBitcnt, h.tpdBitcnt, List.length_append, List.length_singleton, BitVec.ofNat_add]
      rfl }

/-- As long as every tick is counted, nothing else changes. -/
theorem counts_through {ls : List Level} (attempt : st ≠ .idle)
    (counts : ∀ l ∈ ls, ∀ n s, n < ls.length → Receiving p st n bits s → Receiving p st (n + 1) bits (tickAt s l))
    (h : Receiving p st 0 bits s) : BusyThrough s ls ∧ Receiving p st ls.length bits (ticksAt s ls) := by
  induction ls using List.reverseRecOn with
  | nil => exact ⟨trivial, h⟩
  | append_singleton ls l ih =>
    simp only [List.mem_append, List.length_append, List.length_singleton] at counts ⊢
    obtain ⟨busy, reached⟩ := ih fun l' mem n s lt => counts l' (.inl mem) n s (by omega)
    rw [busyThrough_append, ticksAt_concat]
    exact ⟨⟨busy, reached.busy attempt, trivial⟩, counts l (.inr (List.mem_singleton_self l)) _ _ (by omega) reached⟩

end

/-! ## Fixed delays -/

/-- A tick in this TPD state is one of a fixed delay of `length` ticks, the last of which does `last` (R111, R113). -/
def Delays (p : Params) (st : TpdState) (bits : List Level) (length : BitVec 16) (last : State → State) : Prop :=
  ∀ n s, Receiving p st n bits s → tpdTick s = if n + 1 = length.toNat then last s else countTick s

section
variable {p : Params} {st : TpdState} {bits : List Level} {length : BitVec 16} {last : State → State}

theorem Delays.counts_through (delays : Delays p st bits length last) (attempt : st ≠ .idle) {s : State}
    (h : Receiving p st 0 bits s) {ls : List Level} (short : ls.length < length.toNat) :
    BusyThrough s ls ∧ Receiving p st ls.length bits (ticksAt s ls) := by
  refine Machine.counts_through attempt (fun l _ n u lt reached => ?_) h
  have begun := reached.beginCycle l 0 u.stimulus
  rw [tickAt, delays n _ begun, if_neg (by omega)]
  exact begun.countTick (by omega)

/-- A fixed delay takes any levels, as many as it lasts. -/
theorem Delays.phase (delays : Delays p st bits length last) (attempt : st ≠ .idle) (positive : 1 ≤ length.toNat)
    {Q : Level → State → Prop} (ends : ∀ n s, Receiving p st n bits s → Q s.line (last s)) :
    Phase (Receiving p st 0 bits) (fun x : List Level × Level => x.1.length + 1 = length.toNat)
      (fun x => x.1 ++ [x.2]) (fun x => Q x.2) where
  leads := fun ⟨before, l⟩ len s h => by
    obtain ⟨busy, reached⟩ := delays.counts_through attempt h (ls := before) (by simp only at len; omega)
    have begun := reached.beginCycle l 0 (ticksAt s before).stimulus
    rw [busyThrough_append, ticksAt_concat, tickAt, delays _ _ begun, if_pos len]
    exact ⟨⟨busy, reached.busy attempt, trivial⟩, ends _ _ begun⟩
  only := fun s ls h endsOk => by
    have long : length.toNat ≤ ls.length := by
      by_contra short
      obtain ⟨-, reached⟩ := delays.counts_through attempt h (Nat.lt_of_not_le short)
      exact absurd (reached.tpdResult.symm.trans endsOk.2) nofun
    obtain ⟨l, rest, drop⟩ := List.exists_cons_of_length_pos (l := ls.drop (length.toNat - 1)) (by simp; omega)
    refine ⟨(ls.take (length.toNat - 1), l), rest, by simp; omega, ?_⟩
    simp [← drop]

end

/-! ## Bounded waits -/

/-- A tick in this TPD state is one of a bounded wait (R110). -/
def Waits (p : Params) (st : TpdState) (bits : List Level) (target : Level) (budget : BitVec 16) (next : WaitNext)
    (stage : TpdStage) : Prop :=
  ∀ n s, Receiving p st n bits s → tpdTick s = wait target budget next stage s

/-- What a wait does on its success (R110). -/
def waitSuccess : WaitNext → State → State
  | .goto st, s => enterState st s
  | .finish, s => finish s

theorem wait_at_target (budget : BitVec 16) (next : WaitNext) (stage : TpdStage) (s : State) :
    wait s.line budget next stage s = waitSuccess next s := by
  cases next <;> simp [wait, waitSuccess]

section
variable {p : Params} {st : TpdState} {bits : List Level} {target : Level} {budget : BitVec 16} {next : WaitNext}
  {stage : TpdStage}

/-- Away from the target and within the budget a wait counts. -/
theorem Waits.counts (waits : Waits p st bits target budget next stage) {n : Nat} {s : State}
    (h : Receiving p st n bits s) (within : n < budget.toNat) {l : Level} (away : l ≠ target) :
    Receiving p st (n + 1) bits (tickAt s l) := by
  have begun := h.beginCycle l 0 s.stimulus
  have inBudget : s.tpdCnt ≠ budget := by
    rintro rfl
    exact within.ne h.tpdCnt.symm
  have counted : tickAt s l = countTick (beginCycle l 0 s.stimulus s) := by
    rw [tickAt, waits n _ begun]
    simp [wait, away, inBudget]
  rw [counted]
  exact begun.countTick (by omega)

/-- Once out of its budget, and away from the target, a wait ends the attempt, and not with OK. -/
theorem Waits.timesOut (waits : Waits p st bits target budget next stage) {s : State}
    (h : Receiving p st budget.toNat bits s) {l : Level} (away : l ≠ target) (ls : List Level) :
    ¬ EndsOk (tickAt s l) ls := by
  have last : s.tpdCnt = budget := BitVec.eq_of_toNat_eq h.tpdCnt
  have ended : tickAt s l = endAttempt (timeoutResult stage) stage (beginCycle l 0 s.stimulus s) := by
    rw [tickAt, waits _ _ (h.beginCycle l 0 s.stimulus)]
    simp [wait, away, last]
  rw [ended]
  refine not_endsOk_of_idle rfl ?_ ls
  rw [endAttempt_tpdResult]
  rcases timeoutResult_cases stage with e | e <;> simp [e]

/-- An attempt that ends OK reaches the target within what is left of the budget. -/
theorem Waits.only_target (waits : Waits p st bits target budget next stage) {n : Nat} {s : State} {ls : List Level}
    (h : Receiving p st n bits s) (within : n ≤ budget.toNat) (ends : EndsOk s ls) :
    ∃ k rest, n + k ≤ budget.toNat ∧ ls = List.replicate k (!target) ++ target :: rest := by
  induction ls generalizing n s with
  | nil => exact absurd (h.tpdResult.symm.trans ends.2) nofun
  | cons l ls ih =>
    have endsAfter : EndsOk (tickAt s l) ls := EndsOk.after (a := [l]) ends
    by_cases reached : l = target
    · exact ⟨0, ls, within, by simp [reached]⟩
    · have before : n < budget.toNat := by
        refine lt_of_le_of_ne within ?_
        rintro rfl
        exact waits.timesOut h reached ls endsAfter
      obtain ⟨k, rest, le, rfl⟩ := ih (waits.counts h before reached) before endsAfter
      exact ⟨k + 1, rest, by omega, by simp [List.replicate_succ, Bool.eq_not_of_ne reached]⟩

/-- A wait takes levels away from its target, as many as its budget at most, and then the target. -/
theorem Waits.phase (waits : Waits p st bits target budget next stage) (attempt : st ≠ .idle) {Q : State → Prop}
    (succeeds : ∀ n s, Receiving p st n bits s → Q (waitSuccess next s)) :
    Phase (Receiving p st 0 bits) (fun k : Nat => k ≤ budget.toNat) (fun k => List.replicate k (!target) ++ [target])
      (fun _ => Q) where
  leads := fun k within s h => by
    have counted (l : Level) (mem : l ∈ List.replicate k (!target)) (n : Nat) (u : State)
        (lt : n < (List.replicate k (!target)).length) (inWait : Receiving p st n bits u) :
        Receiving p st (n + 1) bits (tickAt u l) := by
      rw [List.length_replicate] at lt
      exact waits.counts inWait (by omega) (by simp [List.eq_of_mem_replicate mem])
    obtain ⟨busy, reached⟩ := counts_through attempt counted h
    have begun := reached.beginCycle target 0 (ticksAt s (List.replicate k (!target))).stimulus
    rw [busyThrough_append, ticksAt_concat, tickAt, waits _ _ begun]
    refine ⟨⟨busy, reached.busy attempt, trivial⟩, ?_⟩
    exact wait_at_target budget next stage (beginCycle target 0 _ _) ▸ succeeds _ _ begun
  only := fun s ls h ends => by
    obtain ⟨k, rest, le, rfl⟩ := waits.only_target h (Nat.zero_le _) ends
    exact ⟨k, rest, by omega, by simp⟩

end

/-! ## The phases of an attempt -/

section
variable {p : Params} {bits : List Level}

/-- START_LOW and RELEASE take any levels, as many as they last (R104, R105). -/
theorem hold_phase {st next : TpdState} {n : Params → BitVec 16} (isHold : IsHold st next n) (attempt : st ≠ .idle)
    (positive : 1 ≤ (n p).toNat) :
    Phase (Receiving p st 0 bits) (fun ls : List Level => ls.length = (n p).toNat) id
      (fun _ => Receiving p next 0 bits) := by
  have delays : Delays p st bits (n p) (enterState next) := fun m s h => by
    rw [isHold s h.tpdState, hold, h.tpdCnt, h.params]
  have phase := delays.phase attempt positive (Q := fun _ => Receiving p next 0 bits) fun _ _ h => h.enterState next
  refine phase.reshape (fun ls len => ?_) fun ⟨before, l⟩ len => ⟨before ++ [l], by simpa using len, rfl⟩
  obtain rfl | ⟨before, l, rfl⟩ := List.eq_nil_or_concat' ls
  · rw [List.length_nil] at len
    omega
  · exact ⟨(before, l), by simpa using len, rfl, fun _ h => h⟩

theorem initiate_phase (startLow : 1 ≤ p.tStartLow.toNat) (release : 1 ≤ p.tRelease.toNat) :
    Phase (Receiving p .startLow 0 bits) (fun ls : List Level => ls.length = p.tStartLow.toNat + p.tRelease.toNat) id
      (fun _ => Receiving p .ack1 0 bits) := by
  refine ((hold_phase startLow_isHold nofun startLow).seq fun _ _ => hold_phase release_isHold nofun release).reshape
    (fun ls len => ?_) fun ⟨a, b⟩ ⟨lenA, lenB⟩ => ⟨a ++ b, by simp [lenA, lenB], rfl⟩
  exact ⟨(ls.take p.tStartLow.toNat, ls.drop p.tStartLow.toNat), by simp [len], by simp, fun _ h => h⟩

/-- A wait for another state of the attempt. -/
theorem wait_phase {st next : TpdState} {target : Level} {budget : BitVec 16} {stage : TpdStage}
    (waits : Waits p st bits target budget (.goto next) stage) (attempt : st ≠ .idle) :
    Phase (Receiving p st 0 bits) (fun k : Nat => k ≤ budget.toNat) (fun k => List.replicate k (!target) ++ [target])
      (fun _ => Receiving p next 0 bits) :=
  waits.phase attempt fun _ _ h => h.enterState next

theorem ack1_waits : Waits p .ack1 bits false p.ackBudget (.goto .ack2) .ack1 := fun _ s h => by
  rw [tpdTick_ack1 h.tpdState, h.params]

theorem ack2_waits : Waits p .ack2 bits true p.ackBudget (.goto .ack3) .ack2 := fun _ s h => by
  rw [tpdTick_ack2 h.tpdState, h.params]

theorem ack3_waits : Waits p .ack3 bits false p.ackBudget (.goto .bitRise) .ack3 := fun _ s h => by
  rw [tpdTick_ack3 h.tpdState, h.params]

theorem bitRise_waits : Waits p .bitRise bits true p.bitBudget (.goto .bitDelay) .bitRise := fun _ s h => by
  rw [tpdTick_bitRise h.tpdState, h.params]

theorem bitDelay_delays :
    Delays p .bitDelay bits p.sampleOffset (fun s => enterState .bitFall (sampleBit s.line s)) := fun _ s h => by
  rw [tpdTick_bitDelay h.tpdState, sampleAfterOffset, h.tpdCnt, h.params]

/-- BIT_FALL goes on to FINISH after 40 bits, to the next bit before (R115). -/
theorem bitFall_waits (most : bits.length ≤ 40) :
    Waits p .bitFall bits false p.bitBudget (if bits.length = 40 then .finish else .goto .bitRise) .bitFall :=
  fun _ s h => by
    have full : s.tpdBitcnt = 40 ↔ bits.length = 40 := by
      rw [h.tpdBitcnt]
      bv_omega
    rw [tpdTick_bitFall h.tpdState, h.params, afterBitFall]
    simp only [full]

/-! ## The bits -/

/-- After an attempt that received these bits: validated and decoded (R117 to R122). -/
def Received (bits : List Level) (t : State) : Prop :=
  ∃ n p s, Receiving p .bitFall n bits s ∧ t = finish s

/-- After a fall: the frame is received, or the next bit is waited for (R115). -/
def AfterBit (p : Params) (bits : List Level) (s : State) : Prop :=
  if bits.length = 40 then Received bits s else Receiving p .bitRise 0 bits s

/-- One bit: its rise wait, the delay with the sample, and its fall wait (R127(iv)). -/
theorem bit_phase (offset : 1 ≤ p.sampleOffset.toNat) (notFull : bits.length < 40) :
    Phase (Receiving p .bitRise 0 bits) (BitWave.fits p) BitWave.levels (fun b => AfterBit p (bits ++ [b.bit])) := by
  have rise := wait_phase (bitRise_waits (p := p) (bits := bits)) nofun
  have sample := (bitDelay_delays (p := p) (bits := bits)).phase nofun offset
    (Q := fun b => Receiving p .bitFall 0 (bits ++ [b])) fun _ s h => (h.sampleBit s.line).enterState .bitFall
  have fall (b : Level) := (bitFall_waits (p := p) (bits := bits ++ [b]) (by simp; omega)).phase nofun
    (Q := AfterBit p (bits ++ [b])) fun n s h => by
      unfold AfterBit
      split
      · exact ⟨n, p, s, h, rfl⟩
      · exact h.enterState .bitRise
  refine ((rise.seq fun _ _ => sample).seq fun x _ => fall x.2.2).reshape
    (fun ⟨low, between, bit, high⟩ ⟨fitsLow, fitsBetween, fitsHigh⟩ => ?_)
    fun ⟨⟨low, between, bit⟩, high⟩ ⟨⟨fitsLow, fitsBetween⟩, fitsHigh⟩ => ?_
  · exact ⟨((low, between, bit), high), ⟨⟨fitsLow, fitsBetween⟩, fitsHigh⟩, by simp [BitWave.levels], fun _ h => h⟩
  · exact ⟨⟨low, between, bit, high⟩, ⟨fitsLow, fitsBetween, fitsHigh⟩, by simp [BitWave.levels]⟩

/-- The bits still missing, one after the other. -/
theorem bits_phase (offset : 1 ≤ p.sampleOffset.toNat) (k : Nat) (missing : bits.length + k = 40) :
    Phase (AfterBit p bits) (fun bs : List BitWave => bs.length = k ∧ ∀ b ∈ bs, b.fits p)
      (fun bs => bs.flatMap BitWave.levels) (fun bs => Received (bits ++ bs.map BitWave.bit)) := by
  induction k generalizing bits with
  | zero =>
    refine ⟨fun bs ⟨noBits, _⟩ s h => ?_, fun s ls _ _ => ⟨[], ls, by simp, rfl⟩⟩
    obtain rfl := List.length_eq_zero_iff.1 noBits
    have full : bits.length = 40 := missing
    rw [AfterBit, if_pos full] at h
    simpa using h
  | succ k ih =>
    have next : AfterBit p bits = Receiving p .bitRise 0 bits := by
      funext s
      rw [AfterBit, if_neg (by omega)]
    rw [next]
    refine ((bit_phase offset (by omega)).seq fun b _ => ih (bits := bits ++ [b.bit]) (by simp; omega)).reshape
      (fun bs ⟨len, fits⟩ => ?_) fun ⟨b, bs⟩ ⟨fitsB, len, fits⟩ => ?_
    · obtain ⟨b, bs, rfl⟩ := List.exists_cons_of_length_eq_add_one len
      rw [List.forall_mem_cons] at fits
      obtain ⟨fitsB, fits⟩ := fits
      exact ⟨(b, bs), ⟨fitsB, by simpa using len, fits⟩, by simp, by simp⟩
    · exact ⟨b :: bs, ⟨by simp [len], List.forall_mem_cons.2 ⟨fitsB, fits⟩⟩, by simp⟩

/-- The whole attempt (R127). -/
theorem attempt_phase (startLow : 1 ≤ p.tStartLow.toNat) (release : 1 ≤ p.tRelease.toNat)
    (offset : 1 ≤ p.sampleOffset.toNat) :
    Phase (Receiving p .startLow 0 []) (FrameWave.fits p) FrameWave.levels
      (fun w => Received (w.bits.map BitWave.bit)) := by
  have bits := bits_phase (p := p) (bits := []) offset 40 rfl
  refine (((((initiate_phase startLow release).seq fun _ _ => wait_phase ack1_waits nofun).seq
    fun _ _ => wait_phase ack2_waits nofun).seq fun _ _ => wait_phase ack3_waits nofun).seq fun _ _ => bits).reshape
    (fun w fits => ?_) fun ⟨⟨⟨⟨initiate, ack1⟩, ack2⟩, ack3⟩, bits⟩ fits => ?_
  · obtain ⟨initiate, ack1, ack2, ack3, count, bits⟩ := fits
    exact ⟨((((w.initiate, w.ack1), w.ack2), w.ack3), w.bits), ⟨⟨⟨⟨initiate, ack1⟩, ack2⟩, ack3⟩, count, bits⟩,
      by simp [FrameWave.levels], by simp⟩
  · obtain ⟨⟨⟨⟨fitsInitiate, fits1⟩, fits2⟩, fits3⟩, count, fits⟩ := fits
    exact ⟨⟨initiate, ack1, ack2, ack3, bits⟩, ⟨fitsInitiate, fits1, fits2, fits3, count, fits⟩,
      by simp [FrameWave.levels]⟩

end

/-! ## The statements -/

/-- What is left of the attempt's frame after its end. -/
theorem Received.finishResult {bits : List Level} {t : State} (received : Received bits t) :
    ∃ s, FinishResult s t ∧ s.tpdShreg = BitVec.ofNat 40 (bitsValue bits) ∧
      s.tpdBitcnt = BitVec.ofNat 6 bits.length := by
  obtain ⟨n, p, s, h, rfl⟩ := received
  exact ⟨s, finish_result s, h.tpdShreg, h.tpdBitcnt⟩

/-- Settles O48: the waveform leads through the whole attempt, which ends with its bits in the shift register. -/
theorem timelyWaveformIsReceived : Obligations.TimelyWaveformIsReceived := by
  intro s w ⟨startLow, release, offset⟩ fits
  obtain ⟨busy, received⟩ :=
    (attempt_phase (by omega) release offset).leads w fits (startAttempt s) (receiving_startAttempt s)
  refine ⟨fun k lt => ⟨_, afterSteps_withTicks_take lt.le, busy.busy_at lt⟩, _, afterSteps_withTicks _ _, ?_⟩
  obtain ⟨u, done, shreg, bitcnt⟩ := received.finishResult
  have forty : u.tpdBitcnt = 40 := by
    obtain ⟨-, -, -, -, count, -⟩ := fits
    rw [bitcnt, List.length_map, count]
    rfl
  have frame : u.tpdShreg = w.frame := shreg
  exact ⟨by simp [State.busy, done.tpdState], done.tpdDone, done.tpdBitcnt.trans forty, done.tpdShreg.trans frame,
    frame ▸ done.tpdResult, done.tpdStage, frame ▸ done.frameHum, frame ▸ done.frameTemp, frame ▸ done.frameRxCsum⟩

/-- Settles O49: the attempt begins with such a waveform, and after that it is over, with OK only if the frame is valid. -/
theorem okOnlyByATimelyWaveform : Obligations.OkOnlyByATimelyWaveform := by
  intro s t levels startLow release offset never ran ok
  have busy : BusyThrough (startAttempt s) levels := busyThrough_of_countAlong never
  obtain rfl : ticksAt (startAttempt s) levels = t := by simpa [afterSteps_withTicks] using ran
  have attempt := attempt_phase startLow release offset
  have begun := receiving_startAttempt s
  obtain ⟨w, rest, fits, rfl⟩ := attempt.only _ levels begun ⟨busy, ok⟩
  obtain ⟨-, received⟩ := attempt.leads w fits _ begun
  obtain ⟨u, done, shreg, -⟩ := received.finishResult
  obtain rfl : rest = [] :=
    (busyThrough_append.1 busy).2.eq_nil_of_idle (by simp [State.busy, done.tpdState])
  refine ⟨w, fits, (List.append_nil _).symm, ?_⟩
  have frame : u.tpdShreg = w.frame := shreg
  rw [List.append_nil, done.tpdResult, frame] at ok
  by_contra invalid
  simp [invalid] at ok

end Sys2Proof.Machine
end

section
/-! SUPPORT. What a sample finds and what it does with it (spec/41_quadrature.md R142 to R146, spec/42_menu.md R161 and
R162): the rotation and the button edge by the levels of the two snapshots, and the index after each rotation. -/

namespace Sys2Proof.Machine

/-! ## The levels of a snapshot as bits of its number -/

section
variable {snap : Snapshot}

theorem phaseA_eq_true_iff : phaseA snap = true ↔ snap.toNat % 2 = 1 := by
  simp [phaseA, BitVec.getLsbD, Nat.testBit_zero]

theorem phaseA_eq_false_iff : phaseA snap = false ↔ snap.toNat % 2 = 0 := by
  rw [← Bool.not_eq_true, phaseA_eq_true_iff]
  omega

theorem phaseB_eq_true_iff : phaseB snap = true ↔ snap.toNat / 2 % 2 = 1 := by
  simp [phaseB, BitVec.getLsbD, Nat.testBit_succ, Nat.testBit_zero]

theorem phaseB_eq_false_iff : phaseB snap = false ↔ snap.toNat / 2 % 2 = 0 := by
  rw [← Bool.not_eq_true, phaseB_eq_true_iff]
  omega

end

/-! ## The events of two snapshots -/

section
variable {cur prev : Snapshot}

theorem rotationOf_eq_plus_iff :
    rotationOf cur prev = .plus ↔ (phaseA prev = false ∧ phaseA cur = true) ∧ phaseB cur = true := by
  unfold rotationOf
  split_ifs with rise positive
  · simp [rise, positive]
  · simp [positive]
  · simp [rise]

theorem rotationOf_eq_minus_iff :
    rotationOf cur prev = .minus ↔ (phaseA prev = false ∧ phaseA cur = true) ∧ phaseB cur = false := by
  unfold rotationOf
  split_ifs with rise positive
  · simp [positive]
  · simp [rise, positive]
  · simp [rise]

theorem rotationOf_eq_zero_iff :
    rotationOf cur prev = .zero ↔ ¬ (phaseA prev = false ∧ phaseA cur = true) := by
  unfold rotationOf
  split_ifs with rise <;> simp [rise]

theorem buttonEdge_iff : buttonEdge cur prev = true ↔ buttonPressed prev = false ∧ buttonPressed cur = true := by
  simp [buttonEdge]

end

/-- Settles O32: the three values of the rotation, with the levels read off the numbers of the snapshots. -/
theorem rotationFollowsPhaseARise : Obligations.RotationFollowsPhaseARise := by
  intro cur prev
  rw [rotationOf_eq_plus_iff, rotationOf_eq_minus_iff, rotationOf_eq_zero_iff, phaseA_eq_false_iff, phaseA_eq_true_iff,
    phaseB_eq_true_iff, phaseB_eq_false_iff]
  exact ⟨and_assoc, and_assoc, Iff.rfl⟩

/-! ## The events a sample finds -/

section
variable {s : State}

/-- The first sample after a reset finds no rotation (R145). -/
theorem sampledRotation_of_unprimed (unprimed : s.qdPrimed = false) : sampledRotation s = .zero := by
  simp [sampledRotation, unprimed]

/-- The first sample after a reset finds no button edge (R145). -/
theorem sampledEdge_of_unprimed (unprimed : s.qdPrimed = false) : sampledEdge s = false := by
  simp [sampledEdge, unprimed]

theorem sampledRotation_of_primed (primed : s.qdPrimed = true) : sampledRotation s = rotationOf s.pins s.qdSnap := by
  simp [sampledRotation, primed]

theorem sampledEdge_of_primed (primed : s.qdPrimed = true) : sampledEdge s = buttonEdge s.pins s.qdSnap := by
  simp [sampledEdge, primed]

/-! ## The index after a sample -/

/-- The clamped index fits its 8 bits, so storing it loses nothing: no wraparound (R161). -/
theorem qdSample_menuIndex_eq_clamp : ((qdSample s).menuIndex.toNat : Int) =
    clamp (s.menuIndex.toNat + (sampledRotation s).delta) 0 s.params.max.toNat := by
  obtain ⟨low, high⟩ := clamp_range (s.menuIndex.toNat + (sampledRotation s).delta) s.params.max.toNat (by omega)
  have := s.params.max.isLt
  rw [qdSample_menuIndex, BitVec.toNat_ofInt]
  omega

/-- +1 moves the index up and stops at MAX. -/
theorem qdSample_menuIndex_of_plus (rot : sampledRotation s = .plus) :
    (qdSample s).menuIndex.toNat = min (s.menuIndex.toNat + 1) s.params.max.toNat := by
  have index := qdSample_menuIndex_eq_clamp (s := s)
  simp only [rot, Rotation.delta, clamp] at index
  split_ifs at index <;> omega

/-- -1 moves the index down and stops at 0, by the truncated subtraction of `Nat`. -/
theorem qdSample_menuIndex_of_minus (inRange : s.menuIndex.toNat ≤ s.params.max.toNat)
    (rot : sampledRotation s = .minus) : (qdSample s).menuIndex.toNat = s.menuIndex.toNat - 1 := by
  have index := qdSample_menuIndex_eq_clamp (s := s)
  simp only [rot, Rotation.delta, clamp] at index
  split_ifs at index <;> omega

theorem qdSample_menuIndex_of_zero (inRange : s.menuIndex.toNat ≤ s.params.max.toNat)
    (rot : sampledRotation s = .zero) : (qdSample s).menuIndex = s.menuIndex := by
  have index := qdSample_menuIndex_eq_clamp (s := s)
  simp only [rot, Rotation.delta, clamp] at index
  apply BitVec.eq_of_toNat_eq
  split_ifs at index <;> omega

end

/-- Settles O33: the frame of the sample, then the rotation and the edge by what the two snapshots show. -/
theorem sampleFindsEventsAndUpdatesMenu : Obligations.SampleFindsEventsAndUpdatesMenu := by
  intro s inRange
  obtain ⟨sameTpd, sameRest⟩ := qdSample_frame s
  refine ⟨_, exec_evQd s, sameTpd, sameRest, qdSample_qdSnap s, qdSample_qdPrimed s, fun unprimed => ?_,
    fun primed => ⟨?_, ?_⟩⟩
  · have rot := sampledRotation_of_unprimed unprimed
    have edge := sampledEdge_of_unprimed unprimed
    exact ⟨rot, edge, qdSample_menuIndex_of_zero inRange rot, by simp [edge]⟩
  · have found := sampledRotation_of_primed primed
    split_ifs with rise positive
    · have rot := found.trans (rotationOf_eq_plus_iff.2 ⟨rise, positive⟩)
      exact ⟨rot, qdSample_menuIndex_of_plus rot⟩
    · have rot := found.trans (rotationOf_eq_minus_iff.2 ⟨rise, Bool.eq_false_of_not_eq_true positive⟩)
      exact ⟨rot, qdSample_menuIndex_of_minus inRange rot⟩
    · have rot := found.trans (rotationOf_eq_zero_iff.2 rise)
      exact ⟨rot, qdSample_menuIndex_of_zero inRange rot⟩
  · have found := sampledEdge_of_primed primed
    split_ifs with rise
    · have edge := found.trans (buttonEdge_iff.2 rise)
      exact ⟨edge, by simp [edge]⟩
    · have noEdge := found.trans (Bool.eq_false_of_not_eq_true fun edge => rise (buttonEdge_iff.1 edge))
      exact ⟨noEdge, by simp [noEdge]⟩

end Sys2Proof.Machine
end

section
/-! SUPPORT. Presses and consumes along a run without reset (spec/42_menu.md R165, R167, 43_host_bus.md R200(a)): what a
step leaves in the pending flag, the balance of that one step, and the balances of the steps of a run added up. -/

namespace Sys2Proof.Machine

/-! ## The flag after a cycle -/

/-- Of the host transactions only RD.MENU_CONSUME changes the flag, and it clears it (R57, R165). -/
theorem exec_host_menuPending {i : Instr} {s u : State} (isHost : isEvent i = false) (wf : i.wellFormed = true)
    (runs : exec i s = .next u) : u.menuPending = (s.menuPending && !(some i == some .rdMenuConsume)) := by
  by_cases consume : i = .rdMenuConsume
  · subst consume
    cases runs
    exact (Bool.and_false _).symm
  · have other : (some i == some .rdMenuConsume) = false := by simpa using consume
    have kept := (exec_host_keepsMenu isHost wf runs).menuPending
    simpa [other, consume] using kept

@[simp] theorem hostRead_pins (a : RegAddr) (s : State) : (hostRead a s).pins = s.pins := by
  rcases hostRead_cases a s with ⟨-, read⟩ | ⟨-, read⟩ <;> simp [read]

@[simp] theorem hostWrite_pins (a : RegAddr) (v : RegWord) (s : State) : (hostWrite a v s).pins = s.pins := by
  rcases hostWrite_cases a v s with ⟨-, -, write⟩ | ⟨-, write⟩ <;> simp [write]

theorem exec_host_pins {i : Instr} {s u : State} (isHost : isEvent i = false) (runs : exec i s = .next u) :
    u.pins = s.pins := by
  cases i with
  | rdCtrl | rdTpdStatus | rdFrameHum | rdFrameTemp | rdFrameCsum | rdTempSigned | rdQdStatus | rdMenuState
  | rdMenuConsume | rdRsvd9 | rdRsvdAB | rdRsvdCF => cases runs; exact hostRead_pins _ s
  | wrCtrl | wrIgnored1 | wrIgnored23 | wrIgnored47 | wrIgnored8F => cases runs; exact hostWrite_pins _ _ s
  | evNop | evUs | evQd | evUsQd | evRst => cases isHost

/-- A host transaction changes nothing that the sample of the same cycle looks at. -/
theorem exec_host_sampledEdge {i : Instr} {s u : State} (isHost : isEvent i = false) (wf : i.wellFormed = true)
    (runs : exec i s = .next u) : sampledEdge u = sampledEdge s := by
  obtain ⟨sameQd, -, -⟩ := exec_host_keepsMenu isHost wf runs
  simp only [sampledEdge, sameQd.qdPrimed, sameQd.qdSnap, exec_host_pins isHost runs]

/-- Of the events without reset only a sample changes the flag, and it adds the edge it finds (R146, R162). -/
theorem exec_event_menuPending {e : Instr} {u t : State} (event : isEvent e = true) (noReset : isReset e = false)
    (runs : exec e u = .next t) : t.menuPending = (isSample e && sampledEdge u || u.menuPending) := by
  cases e with
  | evNop => cases runs; rfl
  | evUs =>
    cases runs
    obtain ⟨-, sameMenu, -⟩ := tpdTick_frame u
    exact sameMenu.menuPending
  | evQd => cases runs; exact qdSample_menuPending u
  | evUsQd =>
    cases runs
    obtain ⟨-, sameMenu, -⟩ := tpdTick_frame (qdSample u)
    exact sameMenu.menuPending.trans (qdSample_menuPending u)
  | evRst => cases noReset
  | _ => cases event

/-- The flag after a cycle without reset: a consume clears it first, and then the sample adds its edge (R200(a)). -/
theorem runCycle_menuPending {r : CycleRecord} {c : Cycle} {s t : State} (fetched : fetch r = .ok c)
    (noReset : c.hasReset = false) (runs : runCycle c s = .next t) :
    t.menuPending = (c.hasSample && sampledEdge s || s.menuPending && !c.consumes) := by
  obtain ⟨⟨-, event⟩, host⟩ := fetch_ok fetched
  rcases runCycle_cases c s with ⟨noHost | reset, eventAlone⟩ | ⟨i, u, hostIs, -, hostRuns, hostThenEvent⟩
  · have pending := exec_event_menuPending event noReset (eventAlone.symm.trans runs)
    simpa [Cycle.consumes, noHost, hasSample_eq] using pending
  · exact absurd (noReset.symm.trans reset) nofun
  · rcases host with ⟨-, noHost⟩ | ⟨w, j, -, hostIs', decoded, isHost⟩
    · exact absurd (noHost.symm.trans hostIs) nofun
    · obtain rfl : i = j := by simpa [hostIs] using hostIs'
      have wf := wellFormed_of_decode decoded
      have afterHost : t.menuPending = (c.hasSample && sampledEdge u || u.menuPending) := by
        rw [hostThenEvent] at runs
        split at runs
        · have pending := exec_event_menuPending ((isEvent_dropTick c.ev).trans event)
            ((isReset_dropTick c.ev).trans noReset) runs
          rwa [isSample_dropTick] at pending
        · exact exec_event_menuPending event noReset runs
      rw [afterHost, exec_host_sampledEdge isHost wf hostRuns, exec_host_menuPending isHost wf hostRuns,
        Cycle.consumes, hostIs]

/-! ## The balance of a step -/

theorem nextCycle_of_fetch {s : State} {c : Cycle} (fetched : fetch s.nextRecord = .ok c) : s.nextCycle = some c := by
  simp [State.nextCycle, fetched]

/-- The flag after a step without reset, by what the step finds and consumes (R165). -/
theorem step_menuPending {s t : State} (stepped : step s = .next t) (noReset : resetsNext s = false) :
    t.menuPending = (findsEdge s || s.menuPending && !consumesPress s) := by
  obtain ⟨c, fetched, runs⟩ := step_next stepped
  have cycle := nextCycle_of_fetch fetched
  have cycleNoReset : c.hasReset = false := by simpa [resetsNext, cycle] using noReset
  have finds : findsEdge s = (c.hasSample &&
      sampledEdge (beginCycle s.nextRecord.line s.nextRecord.pins s.stimulus.tail s)) := by
    simp [findsEdge, cycle, sampledEdge, Bool.and_assoc]
  have consumes : consumesPress s = (c.consumes && s.menuPending) := by simp [consumesPress, cycle, cycleNoReset]
  rw [runCycle_menuPending fetched cycleNoReset runs, finds, consumes, beginCycle_menuPending]
  cases s.menuPending <;> simp

/-- A consume that counts takes a press that is pending (R163). -/
theorem menuPending_of_consumesPress {s : State} (consumes : consumesPress s = true) : s.menuPending = true := by
  unfold consumesPress at consumes
  split at consumes
  · exact (Bool.and_eq_true_iff.1 consumes).2
  · cases consumes

/-- In one step without reset no press is lost or invented. With a consume, the press taken leaves and the edge found,
if any, is the new flag; without one, an edge is fresh exactly when it sets the flag (R167(b) to (d)). -/
theorem step_balance {s t : State} (stepped : step s = .next t) (noReset : resetsNext s = false) :
    s.menuPending.toNat + (findsFreshEdge s).toNat = t.menuPending.toNat + (consumesPress s).toNat := by
  rw [step_menuPending stepped noReset, findsFreshEdge]
  cases consumes : consumesPress s with
  | true =>
    rw [menuPending_of_consumesPress consumes]
    simp [Nat.add_comm]
  | false => cases s.menuPending <;> simp

/-! ## The balance of a run -/

theorem countAlong_succ_of_step {p : State → Bool} {n : Nat} {s t : State} (stepped : step s = .next t) :
    countAlong p (n + 1) s = (p s).toNat + countAlong p n t := by
  simp [countAlong, stepped]

/-- Settles O50: by induction on the number of steps, each with its own balance. -/
theorem pressesAreConsumedExactlyOnce : Obligations.PressesAreConsumedExactlyOnce := by
  intro n
  induction n with
  | zero =>
    intro s t ran _
    obtain rfl : s = t := by simpa using ran
    rfl
  | succ n ih =>
    intro s t ran noReset
    obtain ⟨u, stepped, rest⟩ := afterSteps_succ_some ran
    rw [countAlong_succ_of_step stepped] at noReset ⊢
    rw [countAlong_succ_of_step stepped]
    obtain ⟨noResetNow, noResetLater⟩ := Nat.add_eq_zero_iff.1 noReset
    have first := step_balance stepped (by simpa using noResetNow)
    have later := ih u t rest noResetLater
    omega

end Sys2Proof.Machine
end

section
/-! SUPPORT. The host bus (spec/43_host_bus.md): what a read puts on `bus_rdata` (R182 to R191), the writes that do nothing
(R192), and the whole cycle of R200. The machine runs a cycle's parts one after another (R201); they commute with exchanging
the fields they do not own, so each acts as it would on the pre-cycle state. -/

namespace Sys2Proof.Machine

/-! ## What the reads return -/

/-- A read without side effect completes, puts the register's word on the bus and changes nothing else (R180). -/
theorem next_hostRead_of_readValue {a : RegAddr} {v : RegWord} {s : State} (notConsume : a ≠ 0x8)
    (value : readValue a s = v) :
    (.next (hostRead a s) : Host.Outcome State Fault Refusal) = .next { s with busRdata := some v } := by
  rw [hostRead_of_ne_consume notConsume, value]
  rfl

/-- Settles O15: none of these addresses is MENU_CONSUME, and the reserved ones hold no register. -/
theorem plainReadsReturnTheirField : Obligations.PlainReadsReturnTheirField := by
  intro s
  have reserved {a : RegAddr} (least : 0x9 ≤ a.toNat) :
      (.next (hostRead a s) : Host.Outcome State Fault Refusal) = .next { s with busRdata := some 0x0000 } :=
    next_hostRead_of_readValue (by rintro rfl; exact absurd least (by decide)) (readValue_reserved least s)
  exact ⟨next_hostRead_of_readValue (by decide) rfl, next_hostRead_of_readValue (by decide) rfl,
    next_hostRead_of_readValue (by decide) rfl, next_hostRead_of_readValue (by decide) rfl, reserved (by decide),
    fun _ ⟨least, _⟩ => reserved (Nat.le_trans (by decide) least),
    fun _ ⟨least, _⟩ => reserved (Nat.le_trans (by decide) least)⟩

theorem busy_toNat (s : State) : s.busy.toNat = if s.tpdState = .idle then 0 else 1 := by
  by_cases idle : s.tpdState = .idle <;> simp [State.busy, idle]

/-- The fields of TPD_STATUS at their places (R42). -/
theorem tpdStatusWord_toNat (s : State) : (tpdStatusWord s).toNat =
    s.tpdBitcnt.toNat * 256 + s.tpdStage.code.toNat * 32 + s.tpdResult.code.toNat * 4 + s.tpdDone.toNat * 2
      + (if s.tpdState = .idle then 0 else 1) := by
  simp only [tpdStatusWord, toNat_append_eq_add, BitVec.toNat_ofBool, BitVec.toNat_ofNat, busy_toNat]
  omega

/-- The fields of FRAME_CSUM at their places (R45). -/
theorem frameCsumWord_toNat (s : State) :
    (frameCsumWord s).toNat = s.frameCalcCsum.toNat * 256 + s.frameRxCsum.toNat :=
  toNat_append_eq_add _ _

/-- The fields of QD_STATUS at their places (R47). -/
theorem qdStatusWord_toNat (s : State) : (qdStatusWord s).toNat =
    s.qdLastEdge.toNat * 128 + s.qdLastRot.code.toNat * 32 + s.qdPrimed.toNat * 16 + s.qdSnap.toNat := by
  simp only [qdStatusWord, toNat_append_eq_add, BitVec.toNat_ofBool, BitVec.toNat_ofNat]
  omega

/-- The fields of MENU_STATE and MENU_CONSUME at their places (R48). -/
theorem menuWord_toNat (s : State) : (menuWord s).toNat = s.menuPending.toNat * 256 + s.menuIndex.toNat := by
  simp only [menuWord, toNat_append_eq_add, BitVec.toNat_ofBool, BitVec.toNat_ofNat]
  omega

/-- Settles O17: each read returns its register's word, whose number the word's lemma gives. -/
theorem packedReadsPlaceTheirFields : Obligations.PackedReadsPlaceTheirFields :=
  ⟨fun s => ⟨_, next_hostRead_of_readValue (by decide) rfl, tpdStatusWord_toNat s⟩,
    fun s => ⟨_, next_hostRead_of_readValue (by decide) rfl, frameCsumWord_toNat s⟩,
    fun s => ⟨_, next_hostRead_of_readValue (by decide) rfl, qdStatusWord_toNat s⟩,
    fun s => ⟨_, next_hostRead_of_readValue (by decide) rfl, menuWord_toNat s⟩, by decide, by decide, by decide⟩

/-- A read of MENU_CONSUME returns the menu word and clears the flag (R190). -/
theorem exec_rdMenuConsume_eq (s : State) :
    exec .rdMenuConsume s = .next { s with menuPending := false, busRdata := some (menuWord s) } := rfl

/-- Settles O19: the second read is one of a state whose flag the first has cleared. -/
theorem consumeReturnsTheFlagAndClearsIt : Obligations.ConsumeReturnsTheFlagAndClearsIt := by
  intro s
  refine ⟨menuWord s, exec_rdMenuConsume_eq s, menuWord_toNat s, _, exec_rdMenuConsume_eq _, ?_⟩
  simp [menuWord_toNat]

/-- Settles O20: of the addresses of the bus only 0x0, CTRL, has a write that does something. -/
theorem ignoredWritesChangeNothing : Obligations.IgnoredWritesChangeNothing := by
  intro s v
  have ignored {a : RegAddr} (least : 0x1 ≤ a.toNat) :
      (.next (hostWrite a v s) : Host.Outcome State Fault Refusal) = .next s :=
    congrArg Host.Outcome.next (hostWrite_of_ne_ctrl (by rintro rfl; exact absurd least (by decide)) v s)
  exact ⟨ignored (by decide), fun _ ⟨least, _⟩ => ignored (Nat.le_trans (by decide) least),
    fun _ ⟨least, _⟩ => ignored (Nat.le_trans (by decide) least),
    fun _ ⟨least, _⟩ => ignored (Nat.le_trans (by decide) least)⟩

/-! ## The events -/

/-- The tick and the sample own disjoint fields, and neither reads what the other writes (R194). -/
theorem tpdTick_qdSample (s : State) : tpdTick (qdSample s) = qdSample (tpdTick s) := by
  obtain ⟨-, rest⟩ := qdSample_frame s
  have sampleOwn : (qdSample s).withTpdOf s = qdSample s := (qdSample_withTpdOf s s).symm
  have tickOwn : s.withTpdOf (tpdTick s) = tpdTick s := (tpdTick_withTpdOf (q := s) rfl rfl).symm
  calc tpdTick (qdSample s)
      = tpdTick ((qdSample s).withTpdOf s) := by rw [sampleOwn]
    _ = (qdSample s).withTpdOf (tpdTick s) := tpdTick_withTpdOf rest.line rest.params
    _ = qdSample (s.withTpdOf (tpdTick s)) := (qdSample_withTpdOf s (tpdTick s)).symm
    _ = qdSample (tpdTick s) := by rw [tickOwn]

/-- Settles O34: EV.US_QD is the tick after the sample, and the two commute. -/
theorem tickAndSampleCommute : Obligations.TickAndSampleCommute := fun s =>
  ⟨tpdTick s, qdSample s, tpdTick (qdSample s), rfl, rfl, rfl, congrArg Host.Outcome.next (tpdTick_qdSample s).symm, rfl⟩

/-- Settles O23: a cycle with neither a host word nor a strobe ends as it started, with the cycle's inputs taken. -/
theorem emptyCycleChangesNothing : Obligations.EmptyCycleChangesNothing := by
  refine ⟨exec_evNop, fun s noHost noEvent => ?_⟩
  have event : decode s.nextRecord.ev = .instr .evNop := by rw [noEvent]; exact decode_noEventWord
  exact ⟨_, step_of_event noHost event rfl, beginCycle_sameTpd _ _ _ s, ⟨rfl, rfl, rfl, rfl⟩, ⟨rfl, rfl⟩, rfl⟩

/-- The event holds a tick. -/
def isTick (e : Instr) : Bool := e == .evUs || e == .evUsQd

theorem hasTick_eq (c : Cycle) : c.hasTick = isTick c.ev := rfl

theorem isTick_dropTick {e : Instr} (event : isEvent e = true) : isTick (dropTick e) = false := by
  cases e with
  | evNop | evUs | evQd | evUsQd | evRst => rfl
  | _ => cases event

/-- An event without reset ticks the TPD fields and samples the others, each on its own (R194). -/
theorem exec_event_withTpdOf {e : Instr} {q x : State} (event : isEvent e = true) (noReset : isReset e = false)
    (line : q.line = x.line) (params : q.params = x.params) :
    exec e (q.withTpdOf x) =
      .next ((if isSample e then qdSample q else q).withTpdOf (if isTick e then tpdTick x else x)) := by
  cases e with
  | evNop => rfl
  | evUs => exact congrArg Host.Outcome.next (tpdTick_withTpdOf line params)
  | evQd => exact congrArg Host.Outcome.next (qdSample_withTpdOf q x)
  | evUsQd =>
    obtain ⟨-, rest⟩ := qdSample_frame q
    rw [exec_evUsQd, qdSample_withTpdOf, tpdTick_withTpdOf (rest.line.trans line) (rest.params.trans params)]
    rfl
  | evRst => cases noReset
  | _ => cases event

/-! ## The host transaction of a cycle -/

/-- The two fields outside the TPD's that a host transaction writes: the pending flag and the read data. -/
def State.withHostFields (pending : Bool) (rdata : Option RegWord) (s : State) : State :=
  { s with menuPending := pending, busRdata := rdata }

/-- The pending flag as a cycle's host transaction leaves it (R163, R190). -/
def Cycle.pendingAfterHost (c : Cycle) (s : State) : Bool := if c.consumes then false else s.menuPending

/-- The read data as a cycle's host transaction leaves them (R180). -/
def Cycle.rdataAfterHost (c : Cycle) (s : State) : Option RegWord :=
  c.readAddr.elim s.busRdata fun a => some (readValue a s)

/-- The state between a cycle's host transaction and its event (R201): of the TPD fields, only an accepted START has changed
any (R181). -/
def Cycle.afterHost (c : Cycle) (s : State) : State :=
  (s.withHostFields (c.pendingAfterHost s) (c.rdataAfterHost s)).withTpdOf
    (if c.starts s then startAttempt s else s)

/-- A read of any address, in the fields it writes. -/
theorem hostRead_eq (a : RegAddr) (s : State) :
    hostRead a s = s.withHostFields (if a = 0x8 then false else s.menuPending) (some (readValue a s)) := by
  rcases hostRead_cases a s with ⟨consume, consumed⟩ | ⟨notConsume, plain⟩
  · rw [consumed, if_pos consume]
    rfl
  · rw [plain, if_neg notConsume]
    rfl

/-- A host transaction of the opcode map writes the fields of `afterHost`: the rows whose address is an operand range over
neither MENU_CONSUME nor CTRL (R57). -/
theorem exec_host_eq {i : Instr} (e : Instr) {s : State} (isHost : isEvent i = false) (wf : i.wellFormed = true) :
    exec i s = .next (Cycle.afterHost ⟨some i, e⟩ s) := by
  cases i with
  | rdCtrl | rdTpdStatus | rdFrameHum | rdFrameTemp | rdFrameCsum | rdTempSigned | rdQdStatus | rdMenuState
  | rdMenuConsume | rdRsvd9 => exact congrArg Host.Outcome.next (hostRead_eq _ s)
  | rdRsvdAB a | rdRsvdCF a =>
    have notConsume : a ≠ 0x8 := by rintro rfl; exact absurd wf (by decide)
    refine congrArg Host.Outcome.next ((hostRead_eq a s).trans ?_)
    rw [if_neg notConsume]
    rfl
  | wrCtrl v =>
    have starts : Cycle.starts ⟨some (.wrCtrl v), e⟩ s = startAccepted v s := rfl
    rcases hostWrite_cases 0x0 v s with ⟨-, accepted, started⟩ | ⟨ignored, nothing⟩
    · rw [exec_wrCtrl, started, Cycle.afterHost, starts, if_pos accepted]
      rfl
    · have refused : ¬ startAccepted v s = true := by simpa using ignored
      rw [exec_wrCtrl, nothing, Cycle.afterHost, starts, if_neg refused]
      rfl
  | wrIgnored1 v => rfl
  | wrIgnored23 a v | wrIgnored47 a v | wrIgnored8F a v =>
    have notCtrl : a ≠ 0x0 := by rintro rfl; simp [Instr.wellFormed] at wf
    exact congrArg Host.Outcome.next (hostWrite_of_ne_ctrl notCtrl v s)
  | evNop | evUs | evQd | evUsQd | evRst => cases isHost

/-- `start_acc` is the same in the cycle and in the instruction, both ways (R200). -/
theorem acceptsStart_eq_starts (i e : Instr) (s : State) : acceptsStart i s = Cycle.starts ⟨some i, e⟩ s := by
  cases i <;> rfl

/-! ## The whole cycle -/

/-- In a reset cycle the host transaction is ignored (R230). -/
theorem runCycle_of_reset {c : Cycle} (reset : c.hasReset = true) (s : State) :
    runCycle c s = .next (resetState s) := by
  have event : exec c.ev s = .next (resetState s) := by
    unfold Cycle.hasReset at reset
    cases ev : c.ev with
    | evRst d => rfl
    | _ => rw [ev] at reset; cases reset
  rcases runCycle_cases c s with ⟨-, eventAlone⟩ | ⟨_, _, -, noReset, -⟩
  · exact eventAlone.trans event
  · exact absurd (reset.symm.trans noReset) nofun

/-- A cycle without reset is its event, after the host transaction and with the tick dropped after an accepted START
(R201). -/
theorem runCycle_of_noReset {r : CycleRecord} {c : Cycle} (fetched : fetch r = .ok c) (noReset : c.hasReset = false)
    (s : State) : runCycle c s = exec (if c.starts s then dropTick c.ev else c.ev) (c.afterHost s) := by
  obtain ⟨-, ⟨-, noHost⟩ | ⟨w, i, -, hostIs, decoded, isHost⟩⟩ := fetch_ok fetched
  · obtain ⟨host, ev⟩ := c
    cases noHost
    rfl
  · obtain ⟨host, ev⟩ := c
    cases hostIs
    have noReset' : isReset ev = false := noReset
    simp [runCycle, noReset', exec_host_eq ev isHost (wellFormed_of_decode decoded), acceptsStart_eq_starts i ev]

/-- The sample does not read the fields that the host transaction writes, and adds the edge it finds to the flag
(R200(a)). -/
theorem qdSample_withHostFields (pending : Bool) (rdata : Option RegWord) (s : State) :
    qdSample (s.withHostFields pending rdata) = (qdSample s).withHostFields (sampledEdge s || pending) rdata := by
  rw [qdSample_eq, qdSample_eq]
  rfl

/-- A cycle without reset as R200 writes it, by the fields its parts write. -/
theorem wholeCycle_of_noReset {c : Cycle} (noReset : c.hasReset = false) (s : State) :
    wholeCycle c s =
      ((if c.hasSample then qdSample s else s).withHostFields
        (if c.hasSample && sampledEdge s then true else c.pendingAfterHost s) (c.rdataAfterHost s)).withTpdOf
        (if c.starts s then startAttempt s else if c.hasTick then tpdTick s else s) := by
  unfold wholeCycle Cycle.rdataAfterHost
  rw [noReset]
  cases c.readAddr <;> rfl

/-- The sample after the host transaction is the sample of the pre-cycle state beside the transaction (R201). -/
theorem sample_withHostFields (sample pending : Bool) (rdata : Option RegWord) (s : State) :
    (if sample then qdSample (s.withHostFields pending rdata) else s.withHostFields pending rdata) =
      (if sample then qdSample s else s).withHostFields (if sample && sampledEdge s then true else pending) rdata := by
  cases sample with
  | true =>
    rw [if_pos rfl, if_pos rfl, qdSample_withHostFields]
    cases sampledEdge s <;> rfl
  | false => rfl

/-- The sequence of R201 gives the parallel cycle of R200. -/
theorem runCycle_eq_wholeCycle {r : CycleRecord} {c : Cycle} (fetched : fetch r = .ok c) (s : State) :
    runCycle c s = .next (wholeCycle c s) := by
  obtain ⟨⟨-, event⟩, -⟩ := fetch_ok fetched
  cases reset : c.hasReset with
  | true => rw [runCycle_of_reset reset, wholeCycle, if_pos reset]
  | false =>
    rw [runCycle_of_noReset fetched reset, wholeCycle_of_noReset reset, Cycle.afterHost, ← sample_withHostFields,
      hasSample_eq, hasTick_eq]
    by_cases starts : c.starts s = true
    · rw [if_pos starts, if_pos starts, if_pos starts, ← isSample_dropTick]
      refine (exec_event_withTpdOf ((isEvent_dropTick c.ev).trans event) ((isReset_dropTick c.ev).trans reset)
        (by rfl) (by rfl)).trans ?_
      rw [isTick_dropTick event]
      rfl
    · rw [if_neg starts, if_neg starts, if_neg starts]
      exact exec_event_withTpdOf event reset rfl rfl

/-- Settles O9: a step runs its record's cycle, and that is the whole cycle. -/
theorem stepIsTheWholeCycle : Obligations.StepIsTheWholeCycle := fun _ _ fetched =>
  (step_of_fetch fetched).trans (runCycle_eq_wholeCycle fetched _)

/-! ## What a cycle without reset leaves in its parts' fields -/

section
variable {c : Cycle} (noReset : c.hasReset = false) (s : State)
include noReset

theorem wholeCycle_busRdata : (wholeCycle c s).busRdata = c.rdataAfterHost s := by
  rw [wholeCycle_of_noReset noReset]
  rfl

theorem wholeCycle_menuPending :
    (wholeCycle c s).menuPending = if c.hasSample && sampledEdge s then true else c.pendingAfterHost s := by
  rw [wholeCycle_of_noReset noReset]
  rfl

theorem wholeCycle_sameTpd :
    SameTpd (if c.starts s then startAttempt s else if c.hasTick then tpdTick s else s) (wholeCycle c s) := by
  rw [wholeCycle_of_noReset noReset]
  exact ⟨rfl, rfl, rfl, rfl, rfl, rfl, rfl, rfl, rfl, rfl, rfl, rfl⟩

end

/-- No register's word depends on what the start of a cycle sets (log 6). -/
@[simp] theorem readValue_beginCycle (a : RegAddr) (l : Level) (p : Snapshot) (r : List CycleRecord) (s : State) :
    readValue a (beginCycle l p r s) = readValue a s := by
  unfold readValue
  split <;> rfl

/-- Settles O12: the read data are a field of the whole cycle, which starts with none. -/
theorem readDataIsOfThePreCycleState : Obligations.ReadDataIsOfThePreCycleState := by
  intro s c fetched
  refine ⟨_, stepIsTheWholeCycle s c fetched, fun reset => ?_, fun noReset noRead => ?_, fun noReset a read => ?_⟩
  · rw [wholeCycle, if_pos reset]
    rfl
  · rw [wholeCycle_busRdata noReset, Cycle.rdataAfterHost, noRead]
    rfl
  · rw [wholeCycle_busRdata noReset, Cycle.rdataAfterHost, read]
    exact congrArg some (readValue_beginCycle a _ _ _ s)

/-! ## Collisions -/

/-- The event is one instruction: a sample is no reset (R73). -/
theorem hasReset_of_hasSample {c : Cycle} (sample : c.hasSample = true) : c.hasReset = false := by
  have sampling : c.ev = .evQd ∨ c.ev = .evUsQd := by simpa [Cycle.hasSample] using sample
  rcases sampling with ev | ev <;> rw [Cycle.hasReset, ev] <;> rfl

/-- An edge in the cycle of a consume: the flag and index read are those before the cycle, and the edge is the new flag
(R200(a)). -/
theorem wholeCycle_edge_and_consume {c : Cycle} {s : State} (consume : c.host = some .rdMenuConsume)
    (sample : c.hasSample = true) (edge : sampledEdge s = true) :
    (wholeCycle c s).menuPending = true ∧ (wholeCycle c s).busRdata = some (menuWord s) := by
  have noReset := hasReset_of_hasSample sample
  rw [wholeCycle_menuPending noReset, wholeCycle_busRdata noReset, sample, edge, Cycle.rdataAfterHost, Cycle.readAddr,
    consume]
  exact ⟨rfl, rfl⟩

/-- The TPD fields after a cycle with a START: those of a fresh attempt if the TPD is idle, whatever the event, and else
those the tick alone gives (R181, R200(b), (c)). -/
theorem wholeCycle_start_sameTpd {c : Cycle} {v : RegWord} {s : State} (host : c.host = some (.wrCtrl v))
    (noReset : c.hasReset = false) :
    (v.getLsbD 0 = true → s.tpdState = .idle → SameTpd (startAttempt s) (wholeCycle c s)) ∧
    (s.tpdState ≠ .idle → SameTpd (if c.hasTick then tpdTick s else s) (wholeCycle c s)) := by
  have same := wholeCycle_sameTpd noReset s
  have starts : c.starts s = (v.getLsbD 0 && s.tpdState == .idle) := by rw [Cycle.starts, host]
  refine ⟨fun start idle => ?_, fun busy => ?_⟩
  · rwa [if_pos (by rw [starts, start, idle]; rfl)] at same
  · rwa [if_neg (by simp [starts, busy])] at same

/-- Settles O14: the start of the cycle leaves the flag, the index and the TPD fields alone, so each collision is resolved
as in the whole cycle. -/
theorem collisionsResolveAsTheSpecSays : Obligations.CollisionsResolveAsTheSpecSays := by
  refine ⟨fun s c fetched consume sample primed up down => ?_, fun s c v fetched host start idle noReset => ?_,
    fun s c v fetched host busy noReset => ?_⟩
  · have edge : sampledEdge (beginCycle s.nextRecord.line s.nextRecord.pins s.stimulus.tail s) = true :=
      (sampledEdge_of_primed (by exact primed)).trans (buttonEdge_iff.2 ⟨up, down⟩)
    obtain ⟨pending, rdata⟩ := wholeCycle_edge_and_consume consume sample edge
    exact ⟨_, _, stepIsTheWholeCycle s c fetched, pending, rdata, menuWord_toNat _⟩
  · obtain ⟨accepted, -⟩ := wholeCycle_start_sameTpd
      (s := beginCycle s.nextRecord.line s.nextRecord.pins s.stimulus.tail s) host noReset
    exact ⟨_, stepIsTheWholeCycle s c fetched, { accepted start idle with }⟩
  · obtain ⟨-, refused⟩ := wholeCycle_start_sameTpd host noReset
    refine ⟨_, _, stepIsTheWholeCycle s c fetched, ?_, refused busy⟩
    cases c.hasTick <;> rfl

end Sys2Proof.Machine
end

section
/-! SUPPORT. How attempts and steps fail: a RESERVED stimulus word is refused (spec/60_exceptions.md R220), and an attempt
that no peer answers ends with ACK_TIMEOUT at ACK1, without data (R212, spec/70_reset_and_hazards.md R250). -/

namespace Sys2Proof.Machine

/-! ## Refused steps -/

/-- A record that is not fetched is not run. -/
theorem step_of_fetch_error {s : State} {why : Refusal} (notFetched : fetch s.nextRecord = .error why) :
    step s = .refused why := by
  simp [step, stepCycle, notFetched]

/-- Settles O6: both words of a record that is fetched are decoded, and a RESERVED word is not. -/
theorem stepRefusesReservedWords : Obligations.StepRefusesReservedWords := by
  intro s w reserved holds
  obtain ⟨_, undecoded⟩ := (reservedWordsAreExactlyThoseListed w).2 reserved
  cases fetched : fetch s.nextRecord with
  | error why => exact ⟨why, step_of_fetch_error fetched⟩
  | ok c =>
    exfalso
    obtain ⟨⟨eventDecoded, -⟩, host⟩ := fetch_ok fetched
    rcases holds with hostWord | rfl
    · rcases host with ⟨noHost, -⟩ | ⟨v, i, hostIs, -, hostDecoded, -⟩
      · exact absurd (hostWord.symm.trans noHost) nofun
      · obtain rfl : w = v := Option.some.inj (hostWord.symm.trans hostIs)
        exact absurd (undecoded.symm.trans hostDecoded) nofun
    · exact absurd (undecoded.symm.trans eventDecoded) nofun

/-! ## No result before the end of an attempt -/

/-- No outcome is recorded and every data field is 0 (40_tpd.md R100, R123). -/
structure NoResult (s : State) : Prop where
  tpdDone : s.tpdDone = false
  frameHum : s.frameHum = 0
  frameTemp : s.frameTemp = 0
  frameRxCsum : s.frameRxCsum = 0
  frameCalcCsum : s.frameCalcCsum = 0
  tempSigned : s.tempSigned = 0

theorem noResult_startAttempt (s : State) : NoResult (startAttempt s) := ⟨rfl, rfl, rfl, rfl, rfl, rfl⟩

theorem NoResult.beginCycle {s : State} (none : NoResult s) (l : Level) (p : Snapshot) (r : List CycleRecord) :
    NoResult (beginCycle l p r s) := { none with }

/-- A tick that does not end the attempt writes no result (R122, R123). -/
theorem NoResult.tpdTick {s : State} (none : NoResult s) (busy : (tpdTick s).busy = true) : NoResult (tpdTick s) := by
  have form := tpdTick_form s
  generalize Machine.tpdTick s = t at form busy
  cases form with
  | idle => exact none
  | count | enter | sample => exact { none with }
  | timeout | finishOk | finishBad => cases busy

/-- Before each tick of an attempt there is no result yet. -/
theorem BusyThrough.noResult_at {s : State} {ls : List Level} (busy : BusyThrough s ls) (none : NoResult s) {k : Nat}
    (lt : k < ls.length) : NoResult (ticksAt s (ls.take k)) := by
  induction ls generalizing s k with
  | nil => cases lt
  | cons l ls ih =>
    cases k with
    | zero => exact none
    | succ k =>
      have later : k < ls.length := Nat.lt_of_succ_lt_succ lt
      obtain ⟨-, busyAfter⟩ := busy
      have goesOn : (tickAt s l).busy = true := busyAfter.busy_at (k := 0) (by omega)
      exact ih busyAfter ((none.beginCycle l 0 s.stimulus).tpdTick goesOn) later

/-! ## A wait whose target does not come -/

section
variable {p : Params} {st : TpdState} {bits : List Level} {target : Level} {budget : BitVec 16} {next : WaitNext}
  {stage : TpdStage} {s : State}

/-- Away from its target a wait counts through its whole budget (40_tpd.md R110). -/
theorem Waits.counts_through (waits : Waits p st bits target budget next stage) (attempt : st ≠ .idle)
    (h : Receiving p st 0 bits s) :
    BusyThrough s (List.replicate budget.toNat (!target)) ∧
      Receiving p st budget.toNat bits (ticksAt s (List.replicate budget.toNat (!target))) := by
  have counted := Machine.counts_through (ls := List.replicate budget.toNat (!target)) attempt
    (fun l mem n u lt inWait =>
      waits.counts inWait (by simpa using lt) (by simp [List.eq_of_mem_replicate mem])) h
  rwa [List.length_replicate] at counted

/-- With its budget counted through, one more tick away from the target times the wait out (R110). -/
theorem Waits.tickAt_timeout (waits : Waits p st bits target budget next stage)
    (h : Receiving p st budget.toNat bits s) {l : Level} (away : l ≠ target) :
    tickAt s l = endAttempt (timeoutResult stage) stage (beginCycle l 0 s.stimulus s) := by
  have last : s.tpdCnt = budget := BitVec.eq_of_toNat_eq h.tpdCnt
  rw [tickAt, waits _ _ (h.beginCycle l 0 s.stimulus)]
  simp [wait, away, last]

end

/-! ## The unanswered attempt -/

/-- With the line high after Initiate the ACK1 wait has counted through its budget one tick before the attempt's last
one. -/
theorem unanswered_until_last {s : State} {initiate : List Level} (startLow : 1 ≤ s.params.tStartLow.toNat)
    (release : 1 ≤ s.params.tRelease.toNat)
    (length : initiate.length = s.params.tStartLow.toNat + s.params.tRelease.toNat) :
    BusyThrough (startAttempt s) (initiate ++ List.replicate s.params.ackBudget.toNat true) ∧
      Receiving s.params .ack1 s.params.ackBudget.toNat []
        (ticksAt (startAttempt s) (initiate ++ List.replicate s.params.ackBudget.toNat true)) := by
  obtain ⟨busyInitiate, ack1⟩ :=
    (initiate_phase startLow release).leads initiate length (startAttempt s) (receiving_startAttempt s)
  obtain ⟨busyWait, counted⟩ := ack1_waits.counts_through nofun ack1
  rw [ticksAt_append]
  exact ⟨busyThrough_append.2 ⟨busyInitiate, busyWait⟩, counted⟩

/-- Settles O46: nothing is recorded while the TPD is busy, and the last tick is the timeout of the ACK1 wait. -/
theorem unansweredAttemptTimesOutOnTime : Obligations.UnansweredAttemptTimesOutOnTime := by
  intro s initiate ⟨startLow, release, _⟩ length
  obtain ⟨busyBefore, counted⟩ := unanswered_until_last (by omega) release length
  rw [List.replicate_succ', ← List.append_assoc]
  set before := initiate ++ List.replicate s.params.ackBudget.toNat true with before_def
  have levelsLength : initiate.length + (s.params.ackBudget.toNat + 1) = (before ++ [true]).length := by
    simp [before_def]
  have busy : BusyThrough (startAttempt s) (before ++ [true]) :=
    busyThrough_append.2 ⟨busyBefore, counted.busy nofun, trivial⟩
  have noResult {k : Nat} (lt : k < (before ++ [true]).length) := busy.noResult_at (noResult_startAttempt s) lt
  rw [levelsLength]
  refine ⟨fun k lt => ⟨_, afterSteps_withTicks_take lt.le, busy.busy_at lt, (noResult lt).tpdDone⟩,
    _, afterSteps_withTicks _ _, ?_⟩
  have none : NoResult (ticksAt (startAttempt s) before) := by simpa using noResult (k := before.length) (by simp)
  rw [ticksAt_concat, ack1_waits.tickAt_timeout counted (l := true) nofun]
  exact ⟨rfl, rfl, rfl, rfl, counted.tpdBitcnt, none.frameHum, none.frameTemp, none.frameRxCsum, none.frameCalcCsum,
    none.tempSigned⟩

end Sys2Proof.Machine
end

section
/-! SUPPORT. Reset (spec/70_reset_and_hazards.md R230): EV.RST leaves the values of R49, and a cycle with a reset is that
event alone. -/

namespace Sys2Proof.Machine

/-- Settles O24: the meaning of EV.RST reads neither the don't-care bits nor any field but the model's own. -/
theorem resetEventLeavesResetValues : Obligations.ResetEventLeavesResetValues := fun s d => exec_evRst d s

/-- A step with a reset runs EV.RST and nothing else: the host word and the don't-care bits are ignored (R230, R73). -/
theorem step_of_reset {s : State} {c : Cycle} (fetched : fetch s.nextRecord = .ok c) (reset : c.hasReset = true)
    (d : BitVec 2) :
    step s = exec (.evRst d) (beginCycle s.nextRecord.line s.nextRecord.pins s.stimulus.tail s) := by
  rw [step_of_fetch fetched, runCycle_of_reset reset, exec_evRst]

/-- Settles O13: of what the start of the cycle sets, reset keeps only the model's own fields, the queue and the cycle
number. -/
theorem resetWinsOverTheWholeCycle : Obligations.ResetWinsOverTheWholeCycle := fun _ _ fetched reset =>
  (step_of_reset fetched reset 0).trans (resetEventLeavesResetValues _ 0)

end Sys2Proof.Machine
end
